-- ==== Sys2Proof/Word.lean ====
section
/-! DEFINITION. The word types of the links and of the wrapping counters, and the largest coordinate. -/

namespace Sys2Proof

/-- One byte of a link frame (R183). -/
abbrev Byte := BitVec 8

/-- A section sequence number: 16 bits, 65,535 wraps to 0 (00_scope 1.6, R60). -/
abbrev Seq := BitVec 16

/-- One 10-bit symbol of the line code (R187). -/
abbrev Symbol := BitVec 10

/-- The largest coordinate, 4,294,967,295 dmm (00_scope 1.6, R29). -/
abbrev maxCoord : Nat := 4294967295

end Sys2Proof
end

