-- ==== Sys2Proof/Syntax.lean ====
section
/-! DEFINITION. The commands the block takes: one constructor for each row of spec/opcode_table.json. -/

namespace Sys2Proof

/-- The running disparity of the line code before a symbol (R187). -/
inductive Disparity where
  | minus
  | plus
  deriving DecidableEq, Repr, Inhabited

/-- The rows of spec/opcode_table.json. The command rows carry a tag and the payload bytes of the command
frame (R173, R185). The event rows carry what the event brings with it. -/
inductive Instr where
  /-- WHEEL_COUNT: the quadrature pair is found at (A, B) = (a, b) (R26). -/
  | wheelCount (a b : Bool)
  /-- SAMPLE_TICK: the time base reaches the next whole multiple of 1,000 µs (R31). -/
  | sampleTick
  /-- SPACING_TIMER_EXPIRY: the time base reaches the spacing timer's expiry time (R41). -/
  | spacingTimerExpiry
  /-- ASSEMBLY_TIMEOUT_EXPIRY: the time base reaches the expiry time of the slot of sequence number seq (R58). -/
  | assemblyTimeoutExpiry (seq : Seq)
  /-- SECTION_FRAME_RECEIVED: a frame ends on a head link (R44, R45); the symbols that the receiver reads since its lock gain
  or its row before, the frame's last byte at their end (log 9). -/
  | sectionFrameReceived (head : Fin 4) (run : List Symbol)
  /-- HEAD_LOCK_LOSS: a head link receiver loses lock (R44, R48). -/
  | headLockLoss (head : Fin 4)
  /-- HEAD_SYMBOL_ERROR: a 10-bit pattern arrives (R44, R187) after a run of symbols, all that the receiver reads since its
  lock gain or its row before; inFrame says that a frame-start symbol stood right before them (log 9). -/
  | headSymbolError (head : Fin 4) (inFrame : Bool) (run : List Symbol) (sym : Symbol)
  /-- SECTION_EVALUATION: the Gauge Engine evaluates the oldest handed section (R65). -/
  | sectionEvaluation
  /-- SECTION_APPLICATION: the Piece Tracker applies the oldest section result (R106). -/
  | sectionApplication
  /-- COMPILATION_COMPLETE: compilation ends (R137). -/
  | compilationComplete
  /-- LINE_FRAME_RECEIVED: an inbound line frame ends (R169, R170); the symbols read, as for SECTION_FRAME_RECEIVED. -/
  | lineFrameReceived (run : List Symbol)
  /-- LINE_LOCK_LOSS: the line receiver loses lock, with or without a frame in reception (R169). -/
  | lineLockLoss (inFrame : Bool)
  /-- LINE_SYMBOL_ERROR: a 10-bit pattern arrives (R169, R187) after a run of symbols, as for HEAD_SYMBOL_ERROR. -/
  | lineSymbolError (inFrame : Bool) (run : List Symbol) (sym : Symbol)
  /-- TRANSMIT_FRAME_END: the outbound frame being sent finishes (R180). -/
  | transmitFrameEnd
  /-- HARD_RESET: the reset line is held low for lowUs µs (R182). -/
  | hardReset (lowUs : Nat)
  /-- HARD_RESET_RELEASE: 50 µs after the reset line rises (R182). -/
  | hardResetRelease
  | identify (tag : Byte) (payload : List Byte)
  | sense (tag : Byte) (payload : List Byte)
  | getStatus (tag : Byte) (payload : List Byte)
  | setGeometry (tag : Byte) (payload : List Byte)
  | setHeads (tag : Byte) (payload : List Byte)
  | setHeadCal (tag : Byte) (payload : List Byte)
  | openSlot (tag : Byte) (payload : List Byte)
  | writeParams (tag : Byte) (payload : List Byte)
  | writeProbesFirst (tag : Byte) (payload : List Byte)
  | writeProbesNext (tag : Byte) (payload : List Byte)
  | writeGaugesFirst (tag : Byte) (payload : List Byte)
  | writeGaugesNext (tag : Byte) (payload : List Byte)
  | sealSlot (tag : Byte) (payload : List Byte)
  | eraseSlot (tag : Byte) (payload : List Byte)
  | querySlot (tag : Byte) (payload : List Byte)
  | mapDie (tag : Byte) (payload : List Byte)
  | unmapDie (tag : Byte) (payload : List Byte)
  | dieChange (tag : Byte) (payload : List Byte)
  | revert (tag : Byte) (payload : List Byte)
  | start (tag : Byte) (payload : List Byte)
  | halt (tag : Byte) (payload : List Byte)
  | noteRamStop (tag : Byte) (payload : List Byte)
  | noteRamStart (tag : Byte) (payload : List Byte)
  | noteCut (tag : Byte) (payload : List Byte)
  | fetchFirst (tag : Byte) (payload : List Byte)
  | fetchNext (tag : Byte) (payload : List Byte)
  | setFetchPointer (tag : Byte) (payload : List Byte)
  | release (tag : Byte) (payload : List Byte)
  | setTrace (tag : Byte) (payload : List Byte)
  | setNotices (tag : Byte) (payload : List Byte)
  | ackAlerts (tag : Byte) (payload : List Byte)
  | setMatch (tag : Byte) (payload : List Byte)
  | resetEngine (tag : Byte) (payload : List Byte)
  /-- UNKNOWN_COMMAND: a command frame whose code names no command (R173). -/
  | unknownCommand (code tag : Byte) (payload : List Byte)
  /-- HEAD_LOCK_GAIN: a head link receiver holds lock again (R44). -/
  | headLockGain (head : Fin 4)
  /-- LINE_LOCK_GAIN: the line receiver holds lock again (R169). -/
  | lineLockGain
  deriving DecidableEq, Repr

end Sys2Proof
end

