-- ==== Sys2Proof/Decode.lean ====
section
/-! DEFINITION. The command catalogue: the codes and the required payload lengths of the command frames (R173, R174,
R185), and the host's reading of table words. -/

namespace Sys2Proof

/-- The commands of the catalogue (10.3, R185). -/
inductive Command where
  | identify | sense | getStatus | setGeometry | setHeads | setHeadCal
  | openSlot | writeParams | writeProbesFirst | writeProbesNext | writeGaugesFirst | writeGaugesNext
  | sealSlot | eraseSlot | querySlot | mapDie | unmapDie
  | dieChange | revert | start | halt | noteRamStop | noteRamStart | noteCut
  | fetchFirst | fetchNext | setFetchPointer | release | setTrace
  | setNotices | ackAlerts | setMatch | resetEngine
  deriving DecidableEq, Repr

/-- The command code of a command (R185). -/
def Command.code : Command → Byte
  | .identify => 1
  | .sense => 2
  | .getStatus => 3
  | .setGeometry => 16
  | .setHeads => 17
  | .setHeadCal => 18
  | .openSlot => 32
  | .writeParams => 33
  | .writeProbesFirst => 34
  | .writeProbesNext => 35
  | .writeGaugesFirst => 36
  | .writeGaugesNext => 37
  | .sealSlot => 38
  | .eraseSlot => 39
  | .querySlot => 40
  | .mapDie => 41
  | .unmapDie => 42
  | .dieChange => 48
  | .revert => 49
  | .start => 50
  | .halt => 51
  | .noteRamStop => 64
  | .noteRamStart => 65
  | .noteCut => 66
  | .fetchFirst => 80
  | .fetchNext => 81
  | .setFetchPointer => 82
  | .release => 83
  | .setTrace => 84
  | .setNotices => 96
  | .ackAlerts => 97
  | .setMatch => 98
  | .resetEngine => 112

/-- The command that a code names, none where it names no command of the catalogue (R173 step 1). -/
def commandOfCode (code : Byte) : Option Command :=
  match code.toNat with
  | 1 => some .identify
  | 2 => some .sense
  | 3 => some .getStatus
  | 16 => some .setGeometry
  | 17 => some .setHeads
  | 18 => some .setHeadCal
  | 32 => some .openSlot
  | 33 => some .writeParams
  | 34 => some .writeProbesFirst
  | 35 => some .writeProbesNext
  | 36 => some .writeGaugesFirst
  | 37 => some .writeGaugesNext
  | 38 => some .sealSlot
  | 39 => some .eraseSlot
  | 40 => some .querySlot
  | 41 => some .mapDie
  | 42 => some .unmapDie
  | 48 => some .dieChange
  | 49 => some .revert
  | 50 => some .start
  | 51 => some .halt
  | 64 => some .noteRamStop
  | 65 => some .noteRamStart
  | 66 => some .noteCut
  | 80 => some .fetchFirst
  | 81 => some .fetchNext
  | 82 => some .setFetchPointer
  | 83 => some .release
  | 84 => some .setTrace
  | 96 => some .setNotices
  | 97 => some .ackAlerts
  | 98 => some .setMatch
  | 112 => some .resetEngine
  | _ => none

/-- The record count that the count field of a table write names: 0 stands for 16, 16 to 255 name none (R174). -/
def recordCount (field : Byte) : Option Nat :=
  if field = 0 then some 16 else if field.toNat < 16 then some field.toNat else none

/-- The length test of a table write whose records are `size` bytes long (R174, R185). -/
def tableLengthOk (size : Nat) (payload : List Byte) : Bool :=
  match payload with
  | _ :: n :: records => match recordCount n with
    | some k => records.length == k * size
    | none => false
  | _ => false

/-- The length test of R173 step 2: whether the payload has the length the command requires (R174, R185). -/
def lengthOk (c : Command) (payload : List Byte) : Bool :=
  match c with
  | .identify | .sense | .getStatus | .revert | .start | .halt | .fetchFirst | .fetchNext | .resetEngine =>
    payload.length == 0
  | .setGeometry => payload.length == 17
  | .setHeads => payload.length == 4
  | .setHeadCal => payload.length == 11
  | .openSlot | .sealSlot | .eraseSlot | .querySlot => payload.length == 1
  | .writeParams => payload.length == 33
  | .writeProbesFirst | .writeProbesNext => tableLengthOk 25 payload
  | .writeGaugesFirst | .writeGaugesNext => tableLengthOk 21 payload
  | .mapDie => payload.length == 4
  | .unmapDie | .dieChange => payload.length == 2
  | .noteRamStop | .noteCut => payload.length == 2
  | .noteRamStart => payload.length == 4
  | .setFetchPointer | .release => payload.length == 2
  | .setTrace => payload.length == 1
  | .setNotices | .ackAlerts => payload.length == 2
  | .setMatch => payload.length == 5

/-- The command that a word of the opcode table spells. No row of spec/opcode_table.json gives bits, so no word
spells one (log 35). -/
def decodeTableWord (_nbits _w : Nat) : Option Instr := none

end Sys2Proof
end

