-- ==== Sys2Proof/Config.lean ====
section
/-! DEFINITION. What the part leaves free: bytes of reply items for which R184 states no encoding. Each is a
constant without a body, so nothing can be proved of its value. Three more belong to the line code (R187). -/

namespace Sys2Proof

/-- The 4 bytes sent for an absent coordinate (notice replies of R102 taken in IDLE). R184 states none. Log 11. -/
opaque Config.absentCoordinate : List Byte

/-- The bytes sent for an absent mark (R102, disposition NONE). R184 states none. Log 11. -/
opaque Config.absentMark : List Byte

/-- The bytes sent for the absent new billet of a CUT or STOP mark (R94, R102). R184 states none. Log 11. -/
opaque Config.absentBillet : List Byte

/-- The bytes sent for the generation field of a link that is none (R21, R136). R184 states none. Log 11. -/
opaque Config.noLinkGeneration : List Byte

/-- The bytes sent for the bin index of a halt bin that is none (R179). R184 states none. Log 11. -/
opaque Config.noHaltBinIndex : List Byte

/-- The bytes sent for an absent stop record (R179). R184 states none. Log 11. -/
opaque Config.absentStopRecord : List Byte

/-- The bytes sent for an empty error record (R177, the mark that it is empty). R184 states none. Log 11. -/
opaque Config.emptyErrorRecord : List Byte

/-- The bytes sent in the place of the match coordinate while the match is disarmed (R154, R179). Log 11. -/
opaque Config.disarmedMatchCoordinate : List Byte

/-- How many idle symbols the part sends on a link (0 to 3 the head links, 4 the line link) between its frame of a number
and the frame before (R187). It follows from symbol timing, which the model leaves out. Log 36. -/
opaque Config.idleRun (link frame : Nat) : Nat

/-- The running disparity at which the stream of a link (0 to 3 the head links, 4 the line link) stands when the receiver
gains lock at a time. The other end of the link decides it. Log 37. -/
opaque Config.disparityAtLock (link time : Nat) : Disparity

/-- The running disparity a receiver goes on with after an erroneous symbol at a running disparity. R187 states none.
Log 37. -/
opaque Config.disparityAfterError (rd : Disparity) (sym : Symbol) : Disparity

end Sys2Proof
end

