-- ==== Sys2Proof/Machine/Types.lean ====
section
/-! DEFINITION. The enumerations, sets and records that the blocks of the part hold and pass on. -/

namespace Sys2Proof.Machine

/-- One value for each of the four heads 0 to 3. -/
structure PerHead (α : Type) where
  h0 : α
  h1 : α
  h2 : α
  h3 : α
  deriving DecidableEq, Repr

/-- A set of heads: bit n for head n (R184). -/
abbrev HeadSet := BitVec 4

/-- A set of zone kinds: bit 0 STOP, 1 WELD, 2 FRONT_CROP, 3 BACK_CROP (R184). -/
abbrev ZoneSet := BitVec 4

/-- A set of alert flags: bit i for the flag of index i (R184, 8.2). -/
abbrev FlagSet := BitVec 16

/-- The flags of a piece: bit 0 CONTINUED, 1 LATE_MARK, 2 ESTIMATED_MARK, 3 COALESCED, 4 HEAD_GAP (R184). -/
abbrev PieceFlags := BitVec 5

/-! ### Enumerations, in the order of their codes (R184) -/

/-- R128. -/
inductive EngineState where
  | idle | switching | ready | running | halting
  deriving DecidableEq, Repr

/-- R84. -/
inductive PressState where
  | unknown | stopped | pushing
  deriving DecidableEq, Repr

/-- R46. A head is DISABLED exactly when it is not enabled. -/
inductive HeadStatus where
  | disabled | hunting | active | lost
  deriving DecidableEq, Repr

/-- R1. -/
inductive SlotState where
  | empty | loading | sealed
  deriving DecidableEq, Repr

/-- R176. -/
inductive ResultCode where
  | ok | accepted | noEffect | unknownCommand | lengthMismatch | badValue | busy | wrongState | tableOverrun
  | sealCheck | noContext | alreadyActive | headUnavailable | noLink | staleLink | queueFull | empty
  deriving DecidableEq, Repr

/-- R81, R75. `inTol` is IN. -/
inductive GaugeClass where
  | inTol | warnLo | warnHi | outLo | outHi | notGauged
  deriving DecidableEq, Repr

/-- The worst class of a gauge in a bin (R112). `ungraded` is NONE. -/
inductive WorstClass where
  | ungraded | inTol | warn | out
  deriving DecidableEq, Repr

/-- R112, R114. -/
inductive Verdict where
  | accept | acceptWarn | ungauged | rejectDim | rejectZone
  deriving DecidableEq, Repr

/-- R122. -/
inductive CloseReason where
  | cut | split | dieEnd
  deriving DecidableEq, Repr

/-- R94. -/
inductive MarkKind where
  | cut | stop | weld
  deriving DecidableEq, Repr

/-- The zone kinds in bit order (R184). -/
inductive ZoneKind where
  | stop | weld | frontCrop | backCrop
  deriving DecidableEq, Repr

/-- The flags of a piece in bit order (R184). -/
inductive PieceFlag where
  | continued | lateMark | estimatedMark | coalesced | headGap
  deriving DecidableEq, Repr

/-- The last fault kind of a head (R46). `clear` is NONE. -/
inductive HeadFault where
  | clear | symbol | lock | count | length | crc | headId | order | range
  deriving DecidableEq, Repr

/-- The last line fault (R170). `clear` is NONE. -/
inductive LineFault where
  | clear | symbol | lock | kind | size | length | crc
  deriving DecidableEq, Repr

/-- R34. -/
inductive Direction where
  | phaseALeads | phaseBLeads
  deriving DecidableEq, Repr

/-- R6. -/
inductive ProbeKind where
  | edge | surface
  deriving DecidableEq, Repr

/-- R6. -/
inductive Axis where
  | x | y
  deriving DecidableEq, Repr

/-- R7. -/
inductive GaugeKind where
  | spanX | spanY | posX | posY
  deriving DecidableEq, Repr

/-- What became of the mark of a notice (R102). `noMark` is NONE. -/
inductive Disposition where
  | noMark | queued | appliedLate | dropped | duplicate | lost
  deriving DecidableEq, Repr

/-- The kind of the switch outcome record (R128). `unset` is NONE. -/
inductive OutcomeKind where
  | unset | pending | clean | degraded
  deriving DecidableEq, Repr

/-- The sixteen alert flags in index order (8.2). -/
inductive AlertFlag where
  | pieceReady | reportOverrun | poolExhausted | burst | coordMatch | headLost | headSync | thermalHold
  | markOverflow | markLate | switchDone | switchFailed | haltDone | cmdOverflow | frameError | coordLimit
  deriving DecidableEq, Repr

/-! ### Die slots and the directory (chapter 1) -/

/-- The die parameter record, fields 1 to 16 (R4). -/
structure Params where
  echo : Nat
  pitch : Nat
  spacing : Nat
  binLen : Nat
  frontCrop : Nat
  backCrop : Nat
  stopHalf : Nat
  weldLead : Nat
  weldLen : Nat
  expansion : Nat
  tRef : Nat
  tDef : Nat
  minQuality : Nat
  policy : ZoneSet
  ungaugedLimit : Nat
  burstLimit : Nat
  deriving DecidableEq, Repr

/-- A probe record (R6). `dir`, `step` and `minPts` hold what was sent even where the kind does not use them. -/
structure ProbeRec where
  kind : ProbeKind
  head : Fin 4
  uLo : Int
  uHi : Int
  wLo : Nat
  wHi : Nat
  dir : Byte
  step : Nat
  minPts : Nat
  axis : Axis
  deriving DecidableEq, Repr

/-- A gauge record (R7). `enabledByte` is the byte sent (0 is no, any other value yes, R184); probe b absent is none. -/
structure GaugeRec where
  enabledByte : Byte
  kind : GaugeKind
  a : Nat
  b : Option Nat
  datum : Int
  nominal : Int
  tolLo : Int
  tolHi : Int
  warn : Nat
  deriving DecidableEq, Repr

/-- A slot's link (R3). -/
structure SlotLink where
  slot : Fin 8
  gen : BitVec 16
  deriving DecidableEq, Repr

/-- A die slot (R1). `params` is none exactly when the parameter-written mark is clear. The probes and gauges
written counts are the lengths of the tables (R10: every index below the count holds a record). -/
structure DieSlot where
  state : SlotState
  gen : BitVec 16
  busy : Bool
  link : Option SlotLink
  params : Option Params
  probes : List ProbeRec
  probePtr : Nat
  gauges : List GaugeRec
  gaugePtr : Nat
  digest : Option (BitVec 32)
  deriving DecidableEq, Repr

/-- A die directory entry (R23). -/
structure DirEntry where
  die : Nat
  slot : Fin 8
  enabled : Bool
  deriving DecidableEq, Repr

/-! ### Length tracking (chapter 2) -/

/-- The line geometry (R34). -/
structure Geometry where
  dDie : Nat
  dSaw : Nat
  scale : Nat
  dir : Direction
  quad : PerHead (Fin 4)
  deriving DecidableEq, Repr

/-- The Length Tracker. The live coordinate and the residue are read from `acc` (R28). -/
structure LengthTracker where
  phA : Bool
  phB : Bool
  debt : Nat
  acc : Nat
  limit : Bool
  time : Nat
  lastTick : Nat
  history : List Nat
  geom : Geometry
  pitch : Option Nat
  spacing : Option Nat
  nextGrid : Option Nat
  spacingExpiry : Option Nat
  deriving DecidableEq, Repr

/-! ### Head links and section assembly (chapter 3) -/

/-- A trigger frame (R40, 11.2). -/
structure TriggerFrame where
  seq : Seq
  coord : Nat
  deriving DecidableEq, Repr

/-- The line code of a link as the part sends it (R187): the running disparity after the last symbol sent, the number of
frames started (the model's own, for the free number of idle symbols, log 36), and the symbols last sent: the idle
symbols since the frame before and the frame last started. -/
structure Encoder where
  rd : Disparity
  started : Nat
  symbols : List Symbol
  deriving DecidableEq, Repr

/-- The state of one head (R46), its receiver's lock and running disparity (R44, R187), the trigger frame last put on its
link (R40) and the line code sent there. -/
structure Head where
  status : HeadStatus
  miss : Nat
  recov : Nat
  fault : HeadFault
  ox : Int
  oy : Int
  scale : Int
  lock : Bool
  rxRd : Disparity
  trigOut : Option TriggerFrame
  enc : Encoder
  deriving DecidableEq, Repr

/-- The Head Link Ports with their part-wide settings (R46). -/
structure HeadPorts where
  heads : PerHead Head
  timeout : Nat
  lostM : Nat
  recR : Nat
  deriving DecidableEq, Repr

/-- One point of a section frame (11.2). -/
structure Point where
  u : Int
  w : Nat
  quality : Nat
  deriving DecidableEq, Repr

/-- A good frame as a pending slot holds it (R55): the temperature reading after clamping, and the points. -/
structure SecFrame where
  temp : Option Nat
  points : List Point
  deriving DecidableEq, Repr

/-- A pending slot that is not FREE (R55). It is COMPLETE exactly when `contrib` is present (R57). -/
structure PendSlot where
  seq : Seq
  coord : Nat
  frames : PerHead (Option SecFrame)
  passed : HeadSet
  expiry : Nat
  contrib : Option HeadSet
  deriving DecidableEq, Repr

/-- The Section Assembler. `pend` holds the slots that are not FREE, oldest first. -/
structure Assembler where
  pend : List PendSlot
  seq : Seq
  issued : Nat
  heldTemp : Nat
  noReading : Nat
  deriving DecidableEq, Repr

/-! ### The Gauge Engine (chapter 4) -/

/-- What a handed section carries of one contributing head (R59): its points and its calibration at the handing. -/
structure HeadData where
  points : List Point
  ox : Int
  oy : Int
  scale : Int
  deriving DecidableEq, Repr

/-- A section handed to the Gauge Engine (R59). -/
structure Handed where
  seq : Seq
  coord : Nat
  temp : Nat
  held : Bool
  contrib : HeadSet
  heads : PerHead (Option HeadData)
  deriving DecidableEq, Repr

/-- A compiled probe with the quadrant of its head at compilation (R64). -/
structure CompiledProbe where
  probe : ProbeRec
  quad : Fin 4
  deriving DecidableEq, Repr

/-- The compiled copy (R64). Probes and gauges stand at their indices. -/
structure Compiled where
  minQuality : Nat
  expansion : Nat
  tRef : Nat
  probes : List CompiledProbe
  gauges : List GaugeRec
  deriving DecidableEq, Repr

/-- One gauge entry of a section result (R82). -/
structure GaugeEntry where
  idx : Nat
  cold : Option Int
  dev : Option Int
  cls : GaugeClass
  saturated : Bool
  deriving DecidableEq, Repr

/-- A section result (R82). -/
structure SecResult where
  seq : Seq
  coord : Nat
  temp : Nat
  held : Bool
  contrib : HeadSet
  gauges : List GaugeEntry
  deriving DecidableEq, Repr

/-- The Gauge Engine: the compiled copy and the sections handed and not yet evaluated (R64, R65). -/
structure GaugeEngine where
  compiled : Option Compiled
  handed : List Handed
  deriving DecidableEq, Repr

/-! ### The Press Tracker (chapter 5) -/

/-- The stop record (R84). -/
structure StopRec where
  coord : Nat
  est : Bool
  deriving DecidableEq, Repr

/-- A mark entry (R94). -/
structure Mark where
  kind : MarkKind
  start : Nat
  stop : Nat
  billet : Option Nat
  est : Bool
  deriving DecidableEq, Repr

/-- The Press Tracker (R84). An open zone holds its close point (6.2). -/
structure PressTracker where
  state : PressState
  billet : Nat
  gaugeBillet : Nat
  stopRec : Option StopRec
  queue : List Mark
  stopZone : Option Nat
  weldZone : Option Nat
  deriving DecidableEq, Repr

/-! ### The Piece Tracker (chapter 6) -/

/-- One enabled gauge in a bin record (R112). -/
structure BinGauge where
  idx : Nat
  worst : WorstClass
  dev : Option Int
  deriving DecidableEq, Repr

/-- A bin record (R112). `verdict` is none while undecided. `stop` is the End field. -/
structure Bin where
  index : Nat
  start : Nat
  stop : Nat
  billet : Nat
  tags : ZoneSet
  sections : Nat
  notGauged : Nat
  tMin : Option Nat
  tMax : Option Nat
  coalesced : Bool
  verdict : Option Verdict
  gauges : List BinGauge
  deriving DecidableEq, Repr

/-- The open piece (R116): its closed bins, oldest first, and its current bin. `bounded` says that the current
bin's end is a bin boundary (R112: an end clamped at the largest coordinate is not). -/
structure Piece where
  number : Nat
  start : Nat
  flags : PieceFlags
  closed : List Bin
  cur : Bin
  bounded : Bool
  deriving DecidableEq, Repr

/-- A piece report (R122). Billets, bin count and bins per verdict are read from `bins`. -/
structure Report where
  number : Nat
  slot : Nat
  die : Nat
  reason : CloseReason
  flags : PieceFlags
  start : Nat
  stop : Nat
  bins : List Bin
  deriving DecidableEq, Repr

/-- The Piece Tracker (R103), with the live coordinate last presented to it (R30, R104) and the results passed to
it and not yet applied (R65, R103). `free` counts the free records of the bin pool (R123). -/
structure PieceTracker where
  settled : Nat
  presented : Nat
  awaited : List Nat
  results : List SecResult
  piece : Option Piece
  free : Nat
  frontCrop : Option Nat
  nextPiece : Nat
  burst : Nat
  episode : Bool
  deriving DecidableEq, Repr

/-! ### The Context Controller (chapters 1 and 7) -/

/-- The halt bin (R128). -/
structure HaltBin where
  piece : Nat
  bin : Nat
  deriving DecidableEq, Repr

/-- The switch outcome record (R128). -/
structure SwitchOutcome where
  kind : OutcomeKind
  slot : Option (Fin 8)
  die : Option Nat
  reverted : Bool
  missing : HeadSet
  deriving DecidableEq, Repr

/-- The Context Controller (R1, R23, R128). `compileBy` is the time no later than which a running compilation
completes (R137). -/
structure Context where
  slots : Vector DieSlot 8
  dir : List DirEntry
  engine : EngineState
  active : Option (Fin 8)
  activeDie : Option Nat
  activation : Vector (Option Nat) 8
  haltBin : Option HaltBin
  outcome : SwitchOutcome
  compileBy : Option Nat
  deriving DecidableEq, Repr

/-! ### Report Queue, Alert Unit (chapters 8 and 9) -/

/-- The Report Queue (R155), oldest report first. -/
structure ReportQueue where
  reports : List Report
  fetchPtr : Nat
  lastDropped : Option Nat
  deriving DecidableEq, Repr

/-- The Alert Unit (R145). `newly` is the pending alert frame's newly set flags, none while no frame is pending. -/
structure AlertUnit where
  flags : FlagSet
  enable : FlagSet
  newly : Option FlagSet
  number : Byte
  matchAt : Option Nat
  deriving DecidableEq, Repr

/-! ### Replies and outbound frames (chapters 8 to 11) -/

/-- The status summary (R175). -/
structure Summary where
  engine : EngineState
  active : Option (Fin 8)
  press : PressState
  heads : PerHead HeadStatus
  reports : Nat
  alert : Bool
  marks : Nat
  result : ResultCode
  deriving DecidableEq, Repr

/-- A head status record (R54). -/
structure HeadRecord where
  enabled : Bool
  status : HeadStatus
  miss : Nat
  recov : Nat
  fault : HeadFault
  ox : Int
  oy : Int
  scale : Int
  deriving DecidableEq, Repr

/-- The head items of the SET_HEADS, SET_HEAD_CAL and GET_STATUS replies (R54). -/
structure HeadItems where
  timeout : Nat
  lostM : Nat
  recR : Nat
  heads : PerHead HeadRecord
  deriving DecidableEq, Repr

/-- The error record when it is not empty (R177). -/
structure ErrorRec where
  code : Byte
  tag : Byte
  result : ResultCode
  detail : Nat
  deriving DecidableEq, Repr

/-- The items of QUERY_SLOT (R21). -/
structure SlotItems where
  state : SlotState
  gen : BitVec 16
  busy : Bool
  link : Option SlotLink
  paramsWritten : Bool
  probesWritten : Nat
  probePtr : Nat
  gaugesWritten : Nat
  gaugePtr : Nat
  digest : Option (BitVec 32)
  deriving DecidableEq, Repr

/-- The items of a notice reply (R102). -/
structure NoticeItems where
  looked : Option Nat
  est : Bool
  formed : Option Nat
  disposition : Disposition
  mark : Option Mark
  deriving DecidableEq, Repr

/-- The piece report header (R122 less the bin list, laid out in R186). `gauges` is the number of gauge entries per
bin record; the last five fields are the bins per verdict. -/
structure ReportHeader where
  number : Nat
  slot : Nat
  reason : CloseReason
  die : Nat
  flags : PieceFlags
  gauges : Nat
  bins : Nat
  start : Nat
  stop : Nat
  firstBillet : Nat
  lastBillet : Nat
  accept : Nat
  acceptWarn : Nat
  ungauged : Nat
  rejectDim : Nat
  rejectZone : Nat
  deriving DecidableEq, Repr

/-- The items of a fetch reply (R162). -/
structure FetchItems where
  header : ReportHeader
  first : Nat
  returned : Nat
  lastDropped : Option Nat
  bins : List Bin
  deriving DecidableEq, Repr

/-- The items of the GET_STATUS reply, in the groups of R179. -/
structure StatusItems where
  activeDie : Option Nat
  haltBin : Option HaltBin
  outcome : SwitchOutcome
  live : Nat
  settled : Nat
  debt : Nat
  limit : Bool
  pressBillet : Nat
  gaugeBillet : Nat
  stopRec : Option StopRec
  heads : HeadItems
  seq : Seq
  pendingSections : Nat
  heldTemp : Nat
  noReading : Nat
  openPiece : Option Nat
  openBins : Nat
  freeBins : Nat
  burst : Nat
  fetchPtr : Nat
  lastDropped : Option Nat
  queued : List Nat
  flags : FlagSet
  enable : FlagSet
  matchAt : Option Nat
  alertNumber : Byte
  commandQueue : Nat
  traceN : Nat
  replaced : Nat
  lineFault : LineFault
  deriving DecidableEq, Repr

/-- What a reply carries after the status summary. -/
inductive Items where
  /-- The status summary alone. -/
  | summaryOnly
  /-- IDENTIFY: the identity record (R178). -/
  | identity
  /-- SENSE: the error record, or that it is empty (R177). -/
  | errorRecord (e : Option ErrorRec)
  /-- GET_STATUS (R179). -/
  | status (st : StatusItems)
  /-- SET_HEADS, SET_HEAD_CAL (R54). -/
  | heads (h : HeadItems)
  /-- An accepted table write: the new write pointer and written count (R12, R13). -/
  | tableWrite (ptr written : Nat)
  /-- A failed check: its number and the detail index (R15, R133, R141). -/
  | checkFailed (check detail : Nat)
  /-- An accepted SEAL_SLOT: the digest (R15). -/
  | sealed (digest : BitVec 32)
  /-- QUERY_SLOT (R21). -/
  | slot (q : SlotItems)
  /-- MAP_DIE, UNMAP_DIE: the number of directory entries (R24, R25). -/
  | entries (n : Nat)
  /-- An accepted switch or revert: the target, the slot left, the target's link (R136, R142). -/
  | switched (target : Fin 8) (left : Option (Fin 8)) (link : Option SlotLink)
  /-- A press notice (R102). -/
  | notice (n : NoticeItems)
  /-- A fetch (R162). -/
  | fetch (f : FetchItems)
  /-- SET_FETCH_POINTER: the oldest report's piece number and bin count, and the pointer (R163). -/
  | fetchPointer (piece bins ptr : Nat)
  /-- RELEASE: the piece released, the records returned, the new oldest piece, the last dropped piece (R164). -/
  | released (piece : Option Nat) (records : Nat) (oldest lastDropped : Option Nat)
  /-- SET_TRACE: N (R166). -/
  | traceN (n : Nat)
  /-- SET_NOTICES: the notice-enable set and the alert flags (R152). -/
  | notices (enable flags : FlagSet)
  /-- ACK_ALERTS: the flags cleared and the alert flags (R150). -/
  | acked (cleared flags : FlagSet)
  /-- SET_MATCH: the match, and the settled coordinate (R154). -/
  | matchState (matchAt : Option Nat) (settled : Nat)
  deriving DecidableEq, Repr

/-- A reply frame (R175). -/
structure Reply where
  code : Byte
  tag : Byte
  summary : Summary
  items : Items
  deriving DecidableEq, Repr

/-- The contents of a started alert frame (R148). -/
structure AlertBody where
  number : Byte
  newly : FlagSet
  flags : FlagSet
  engine : EngineState
  settled : Nat
  deriving DecidableEq, Repr

/-- One gauge of a trace (R168). -/
structure TraceGauge where
  idx : Nat
  cold : Option Int
  cls : GaugeClass
  deriving DecidableEq, Repr

/-- A trace as the trace buffer holds it (R168, but for the replaced count, which is filled in at its start). -/
structure Trace where
  seq : Seq
  coord : Nat
  temp : Nat
  held : Bool
  piece : Nat
  gauges : List TraceGauge
  deriving DecidableEq, Repr

/-- A frame the transmitter has started (R180). -/
inductive OutFrame where
  | reply (r : Reply)
  | alert (a : AlertBody)
  | trace (replaced : Nat) (t : Trace)
  deriving DecidableEq, Repr

/-- A good command frame as the command queue holds it (R171). -/
structure CmdFrame where
  code : Byte
  tag : Byte
  payload : List Byte
  arrival : Nat
  deriving DecidableEq, Repr

/-- The Line Port (R166, R169 to R172, R177, R180), with the receiver's running disparity and the line code sent (R187). -/
structure LinePort where
  lock : Bool
  rxRd : Disparity
  queue : List CmdFrame
  slot : Option Reply
  tx : Option OutFrame
  enc : Encoder
  error : Option ErrorRec
  fault : LineFault
  traceN : Nat
  decim : Nat
  traceBuf : Option Trace
  replaced : Nat
  deriving DecidableEq, Repr

end Sys2Proof.Machine
end

