-- ==== Sys2Proof/Machine/LineCode.lean ====
section
/-! DEFINITION. The 8b/10b line code with running disparity (R187). The spec names the code, the two control symbols
K27.7 and K28.5 and the symbol error; the symbol tables are those of the public 8b/10b code (PRESUMED, log 10). A
symbol is written abcdei fghj, with bit a the most significant. -/

namespace Sys2Proof.Machine

/-- The 6-bit sub-block abcdei of a data byte's low five bits at negative running disparity. -/
def code5b6b (x : Nat) : Nat :=
  [0b100111, 0b011101, 0b101101, 0b110001, 0b110101, 0b101001, 0b011001, 0b111000,
   0b111001, 0b100101, 0b010101, 0b110100, 0b001101, 0b101100, 0b011100, 0b010111,
   0b011011, 0b100011, 0b010011, 0b110010, 0b001011, 0b101010, 0b011010, 0b111010,
   0b110011, 0b100110, 0b010110, 0b110110, 0b001110, 0b101110, 0b011110, 0b101011].getD x 0

/-- The 4-bit sub-block fghj of a data byte's high three bits at negative running disparity, primary form. -/
def code3b4b (y : Nat) : Nat :=
  [0b1011, 0b1001, 0b0101, 0b1100, 0b1101, 0b1010, 0b0110, 0b1110].getD y 0

/-- The number of ones among the lowest `n` bits of `v`. -/
def onesIn : Nat → Nat → Nat
  | 0, _ => 0
  | n + 1, v => v % 2 + onesIn n (v / 2)

/-- The disparity after a sub-block of `n` bits: unchanged when it is balanced, else the other one (R187). -/
def nextDisparity (n v : Nat) (rd : Disparity) : Disparity :=
  if 2 * onesIn n v = n then rd else match rd with | .minus => .plus | .plus => .minus

/-- The sub-block sent at disparity `rd` for the form `v` of negative disparity: complemented at positive disparity
when it is not balanced, or when it is the balanced pair of D.7 (111000) or D.x.3 (1100). -/
def subBlock (n v : Nat) (rd : Disparity) : Nat :=
  match rd with
  | .minus => v
  | .plus => if 2 * onesIn n v ≠ n ∨ v = 0b111000 ∨ (n = 4 ∧ v = 0b1100) then 2 ^ n - 1 - v else v

/-- Whether D.x.7 takes its alternate sub-block 0111 / 1000, which avoids five equal bits in a row. -/
def usesAlternate7 (x : Nat) (rd : Disparity) : Bool :=
  match rd with
  | .minus => x == 17 || x == 18 || x == 20
  | .plus => x == 11 || x == 13 || x == 14

/-- The 4-bit sub-block fghj of the byte whose low five bits are `x` and high three bits `y`, at the disparity after its
6-bit sub-block. -/
def fourBlock (x y : Nat) (rd : Disparity) : Nat :=
  if y = 7 ∧ usesAlternate7 x rd then (match rd with | .minus => 0b0111 | .plus => 0b1000)
  else subBlock 4 (code3b4b y) rd

/-- The data symbol of a byte at disparity `rd`, and the disparity after it (R187). -/
def encodeData (rd : Disparity) (b : Byte) : Symbol × Disparity :=
  let x := b.toNat % 32
  let six := subBlock 6 (code5b6b x) rd
  let rd6 := nextDisparity 6 six rd
  let four := fourBlock x (b.toNat / 32) rd6
  (BitVec.ofNat 10 (16 * six + four), nextDisparity 4 four rd6)

/-- The byte whose data symbol at disparity `rd` a 10-bit pattern is, if it is one (R187). -/
def decodeData (rd : Disparity) (s : Symbol) : Option Byte :=
  let six := s.toNat / 16
  match (List.range 32).find? fun x => subBlock 6 (code5b6b x) rd == six with
  | none => none
  | some x => ((List.range 8).find? fun y => fourBlock x y (nextDisparity 6 six rd) == s.toNat % 16).map fun y =>
      BitVec.ofNat 8 (32 * y + x)

/-- The frame-start symbol K27.7 at a disparity (R187). -/
def frameStartSymbol : Disparity → Symbol
  | .minus => 0b1101101000#10
  | .plus => 0b0010010111#10

/-- The idle symbol K28.5 at a disparity (R187). -/
def idleSymbol : Disparity → Symbol
  | .minus => 0b0011111010#10
  | .plus => 0b1100000101#10

/-- The disparity after a 10-bit symbol. -/
def disparityAfter (s : Symbol) (rd : Disparity) : Disparity := nextDisparity 10 s.toNat rd

/-- What a 10-bit pattern is to a receiver (R187). -/
inductive Reading where
  | data (b : Byte)
  | frameStart
  | idle
  | symbolError
  deriving DecidableEq, Repr

/-- What a 10-bit pattern is at disparity `rd` (R187): a symbol error is every pattern that is not a data symbol, the
frame-start symbol or the idle symbol, and every symbol of the wrong running disparity. -/
def readSymbol (rd : Disparity) (s : Symbol) : Reading :=
  match decodeData rd s with
  | some b => .data b
  | none => if s = frameStartSymbol rd then .frameStart else if s = idleSymbol rd then .idle else .symbolError

/-- A symbol error (R187). -/
def isSymbolError (rd : Disparity) (s : Symbol) : Bool := readSymbol rd s == .symbolError

/-- The running disparity after a run of symbols. -/
def disparityOver (run : List Symbol) (rd : Disparity) : Disparity := run.foldl (fun r s => disparityAfter s r) rd

/-! ### Receiving (R44, R169, R187) -/

/-- What a receiver finds in the symbols it reads: a frame ended faulty by a symbol error inside it, or a frame that came to
its end, by its bytes. -/
inductive LinkEvent where
  | symbolError
  | frame (bytes : List Byte)
  deriving DecidableEq, Repr

/-- A receiver along a run of symbols: its running disparity, the bytes of the frame in reception (none between frames), and
what it has found, oldest first. -/
structure Reception where
  rd : Disparity
  frame : Option (List Byte)
  found : List LinkEvent
  deriving DecidableEq, Repr

/-- The running disparity after a pattern read at disparity `rd`; after a symbol error it is free (log 37). -/
def disparityHeard (rd : Disparity) (s : Symbol) : Disparity :=
  if isSymbolError rd s then Config.disparityAfterError rd s else disparityAfter s rd

/-- A receiver reads one symbol (R44, R169, R187). A frame-start symbol begins a frame and ends one that stands before its
last byte; a byte belongs to the frame in reception, if any; a symbol error in a frame that is not yet whole makes it
faulty, and one between frames is ignored. That an idle symbol inside a frame is passed over is the model's choice (DESIGN
CHOICE, log 42). -/
def Reception.read (whole : List Byte → Bool) (r : Reception) (s : Symbol) : Reception :=
  let rd := disparityHeard r.rd s
  match readSymbol r.rd s with
  | .data b => { r with rd := rd, frame := r.frame.map (· ++ [b]) }
  | .idle => { r with rd := rd }
  | .frameStart => { rd := rd, frame := some [], found := r.found ++ (r.frame.map LinkEvent.frame).toList }
  | .symbolError =>
    { rd := rd, frame := none,
      found := r.found ++ (r.frame.map fun bs => if whole bs then .frame bs else .symbolError).toList }

/-- A receiver at disparity `rd` reads a run of symbols: its disparity after it, and what it has found. `inFrame` says that a
frame-start symbol stood right before the run, `ended` that the frame in reception has come to its end with the run. -/
def hear (whole : List Byte → Bool) (rd : Disparity) (inFrame ended : Bool) (run : List Symbol) :
    Disparity × List LinkEvent :=
  let r := run.foldl (Reception.read whole) { rd := rd, frame := if inFrame then some [] else none, found := [] }
  (r.rd, r.found ++ match r.frame with
    | some bs => if ended || whole bs then [.frame bs] else []
    | none => [])

/-- The data symbols of a run of bytes from disparity `rd`. -/
def encodeBytes : Disparity → List Byte → List Symbol
  | _, [] => []
  | rd, b :: bs => (encodeData rd b).1 :: encodeBytes (encodeData rd b).2 bs

/-- A whole frame on a link (R187): the frame-start symbol, then the data symbols of its bytes. -/
def frameSymbols (rd : Disparity) (bs : List Byte) : List Symbol :=
  frameStartSymbol rd :: encodeBytes (disparityAfter (frameStartSymbol rd) rd) bs

/-- A number of idle symbols from disparity `rd` (R187). -/
def idleSymbols : Nat → Disparity → List Symbol
  | 0, _ => []
  | n + 1, rd => idleSymbol rd :: idleSymbols n (disparityAfter (idleSymbol rd) rd)

/-- The part starts a frame on a link (R187): idle symbols since the frame before, then the frame's symbols, all at the
running disparity. -/
def Encoder.send (e : Encoder) (link : Nat) (bs : List Byte) : Encoder :=
  let idle := idleSymbols (Config.idleRun link e.started) e.rd
  let symbols := idle ++ frameSymbols (disparityOver idle e.rd) bs
  { rd := disparityOver symbols e.rd, started := e.started + 1, symbols := symbols }

/-- The number of the line link; head link n has the number n. -/
abbrev lineLink : Nat := 4

end Sys2Proof.Machine
end

