-- ==== Sys2Proof/Machine/Bytes.lean ====
section
/-! DEFINITION. Byte order, two's complement and the CRC-32 of every link (R183). -/

namespace Sys2Proof.Machine

/-- The unsigned value of a field's bytes, lowest offset first (R183: little-endian). -/
def leNat : List Byte → Nat
  | [] => 0
  | b :: bs => b.toNat + 256 * leNat bs

/-- The `n` bytes of an unsigned field, lowest offset first (R183). -/
def leBytes : Nat → Nat → List Byte
  | 0, _ => []
  | n + 1, v => BitVec.ofNat 8 v :: leBytes n (v / 256)

/-- The signed value of a field's bytes in two's complement (R183). -/
def leInt (bs : List Byte) : Int :=
  if 2 * leNat bs < 256 ^ bs.length then (leNat bs : Int) else (leNat bs : Int) - (256 ^ bs.length : Nat)

/-- The `n` bytes of a signed field in two's complement (R183). -/
def leIntBytes (n : Nat) (v : Int) : List Byte :=
  leBytes n (v % (256 ^ n : Nat)).toNat

/-- The unsigned field of `n` bytes at offset `o` of a payload. -/
def natAt (bs : List Byte) (o n : Nat) : Nat := leNat ((bs.drop o).take n)

/-- The signed field of `n` bytes at offset `o` of a payload. -/
def intAt (bs : List Byte) (o n : Nat) : Int := leInt ((bs.drop o).take n)

/-- The byte at offset `o` of a payload. -/
def byteAt (bs : List Byte) (o : Nat) : Byte := bs.getD o 0

/-- One bit of the reflected CRC register: the generator 04C11DB7 reflected is EDB88320 (R183). -/
def crcBit (r : BitVec 32) : BitVec 32 :=
  if r.getLsbD 0 then (r >>> 1) ^^^ 0xEDB88320#32 else r >>> 1

/-- One byte into the CRC register, least significant bit first (R183). -/
def crcByte (r : BitVec 32) (b : Byte) : BitVec 32 :=
  crcBit (crcBit (crcBit (crcBit (crcBit (crcBit (crcBit (crcBit (r ^^^ b.zeroExtend 32))))))))

/-- The CRC-32 of R183: the register starts at all ones and the final value is inverted. -/
def crc32 (bs : List Byte) : BitVec 32 :=
  ~~~ (bs.foldl crcByte 0xFFFFFFFF#32)

/-- The four CRC bytes that end a frame, least significant first (R183). -/
def crcBytes (bs : List Byte) : List Byte := leBytes 4 (crc32 bs).toNat

/-- A frame's covered bytes followed by their CRC (R183). -/
def withCrc (bs : List Byte) : List Byte := bs ++ crcBytes bs

/-- The CRC test of a receiver (R183): the first `n` bytes are covered, the next four are the CRC. -/
def crcMatches (bs : List Byte) (n : Nat) : Bool :=
  crc32 (bs.take n) == BitVec.ofNat 32 (natAt bs n 4)

end Sys2Proof.Machine
end

