-- ==== Sys2Proof/Machine/State.lean ====
section
/-! DEFINITION. The state of the part, its values after reset, and the reasons a step could stop. -/

namespace Sys2Proof.Machine

/-- The state of the part: its ten blocks (00_scope 1.3), the reset line, and the queue of waiting commands. -/
structure State where
  inReset : Bool
  lt : LengthTracker
  hl : HeadPorts
  sa : Assembler
  ge : GaugeEngine
  pk : PressTracker
  pt : PieceTracker
  cc : Context
  rq : ReportQueue
  au : AlertUnit
  lp : LinePort
  pending : List Instr
  deriving DecidableEq, Repr

/-- Why the part would stop with a fault. The spec stops the part nowhere: a faulty frame is discarded and
recorded (R45, R170) and a refused command is answered (R176). So there is no reason here. Safe. -/
inductive Fault where
  deriving DecidableEq, Repr

/-- Why a command would have no meaning in the model. -/
inductive Refusal where
  /-- The command has no meaning yet. Raised by an arm of exec only; no arm raises it now. Safe. -/
  | notModelled (mnemonic : String)
  deriving DecidableEq, Repr

/-- A die slot after a hard reset (R1). -/
def DieSlot.fresh : DieSlot :=
  { state := .empty, gen := 0, busy := false, link := none, params := none, probes := [], probePtr := 0,
    gauges := [], gaugePtr := 0, digest := none }

/-- The line code of a link after a hard reset: no symbol sent, negative running disparity (PRESUMED, log 36). -/
def Encoder.fresh : Encoder := { rd := .minus, started := 0, symbols := [] }

/-- A head after a hard reset (R46). The receiver's running disparity is DESIGN CHOICE (log 37). -/
def Head.fresh : Head :=
  { status := .hunting, miss := 0, recov := 0, fault := .clear, ox := 0, oy := 0, scale := 0, lock := false,
    rxRd := .minus, trigOut := none, enc := Encoder.fresh }

/-- The line geometry after a hard reset (R34). -/
def Geometry.initial : Geometry :=
  { dDie := 100000, dSaw := 50000, scale := 65536, dir := .phaseALeads, quad := ⟨0, 1, 2, 3⟩ }

/-- The switch outcome record of kind NONE (R128). -/
def SwitchOutcome.blank : SwitchOutcome :=
  { kind := .unset, slot := none, die := none, reverted := false, missing := 0 }

/-- The part right after reset: every block at its hard-reset values and the reset line released for 50 µs
(R182). The phase pair is DESIGN CHOICE (log 7), the latest tick DEDUCED (log 8). -/
def State.reset : State :=
  { inReset := false
    lt := { phA := false, phB := false, debt := 0, acc := 0, limit := false, time := 0, lastTick := 0,
            history := List.replicate 64 0, geom := Geometry.initial, pitch := none, spacing := none,
            nextGrid := some 0, spacingExpiry := none }
    hl := { heads := ⟨Head.fresh, Head.fresh, Head.fresh, Head.fresh⟩, timeout := 20, lostM := 8, recR := 16 }
    sa := { pend := [], seq := 0, issued := 0, heldTemp := 0, noReading := 0 }
    ge := { compiled := none, handed := [] }
    pk := { state := .unknown, billet := 0, gaugeBillet := 0, stopRec := none, queue := [], stopZone := none,
            weldZone := none }
    pt := { settled := 0, presented := 0, awaited := [], results := [], piece := none, free := 1024,
            frontCrop := none, nextPiece := 1, burst := 0, episode := false }
    cc := { slots := Vector.replicate 8 DieSlot.fresh, dir := [], engine := .idle, active := none,
            activeDie := none, activation := Vector.replicate 8 none, haltBin := none,
            outcome := SwitchOutcome.blank, compileBy := none }
    rq := { reports := [], fetchPtr := 0, lastDropped := none }
    au := { flags := 0, enable := 0, newly := none, number := 0, matchAt := none }
    lp := { lock := false, rxRd := .minus, queue := [], slot := none, tx := none, enc := Encoder.fresh,
            error := none, fault := .clear, traceN := 0, decim := 0, traceBuf := none, replaced := 0 }
    pending := [] }

end Sys2Proof.Machine
end

