-- ==== Sys2Proof/Machine/Ops.lean ====
section
/-! DEFINITION. The named operations over the state: block updates, the four heads, and the readings
that several blocks share. -/

namespace Sys2Proof.Machine

/-! ### Block updates -/

/-- Replaces the reset line. -/
def State.setInReset (s : State) (x : Bool) : State := { s with inReset := x }

/-- Replaces the Length Tracker. -/
def State.setLt (s : State) (x : LengthTracker) : State := { s with lt := x }

/-- Replaces the Head Link Ports. -/
def State.setHl (s : State) (x : HeadPorts) : State := { s with hl := x }

/-- Replaces the Section Assembler. -/
def State.setSa (s : State) (x : Assembler) : State := { s with sa := x }

/-- Replaces the Gauge Engine. -/
def State.setGe (s : State) (x : GaugeEngine) : State := { s with ge := x }

/-- Replaces the Press Tracker. -/
def State.setPk (s : State) (x : PressTracker) : State := { s with pk := x }

/-- Replaces the Piece Tracker. -/
def State.setPt (s : State) (x : PieceTracker) : State := { s with pt := x }

/-- Replaces the Context Controller. -/
def State.setCc (s : State) (x : Context) : State := { s with cc := x }

/-- Replaces the Report Queue. -/
def State.setRq (s : State) (x : ReportQueue) : State := { s with rq := x }

/-- Replaces the Alert Unit. -/
def State.setAu (s : State) (x : AlertUnit) : State := { s with au := x }

/-- Replaces the Line Port. -/
def State.setLp (s : State) (x : LinePort) : State := { s with lp := x }

/-- Replaces the queue of waiting commands. -/
def State.setPending (s : State) (x : List Instr) : State := { s with pending := x }

/-! ### The four heads -/

/-- The four head numbers in order (00_scope 1.6). -/
def allHeads : List (Fin 4) := [0, 1, 2, 3]

/-- The value of one head. -/
def PerHead.get {α : Type} (p : PerHead α) (h : Fin 4) : α :=
  match h with
  | 0 => p.h0
  | 1 => p.h1
  | 2 => p.h2
  | 3 => p.h3

/-- Replaces the value of one head. -/
def PerHead.put {α : Type} (p : PerHead α) (h : Fin 4) (x : α) : PerHead α :=
  match h with
  | 0 => { p with h0 := x }
  | 1 => { p with h1 := x }
  | 2 => { p with h2 := x }
  | 3 => { p with h3 := x }

/-- The values a function gives the four heads. -/
def perHead {α : Type} (f : Fin 4 → α) : PerHead α := ⟨f 0, f 1, f 2, f 3⟩

/-- The set of the heads that a test holds of. -/
def headSet (f : Fin 4 → Bool) : HeadSet :=
  BitVec.ofNat 4 ((f 0).toNat + 2 * (f 1).toNat + 4 * (f 2).toNat + 8 * (f 3).toNat)

/-- Whether a head is in a set of heads. -/
def HeadSet.has (hs : HeadSet) (h : Fin 4) : Bool := hs.getLsbD h.val

/-- A set of heads with one more head. -/
def HeadSet.add (hs : HeadSet) (h : Fin 4) : HeadSet := hs ||| BitVec.ofNat 4 (2 ^ h.val)

/-- The state of one head. -/
def State.head (s : State) (h : Fin 4) : Head := s.hl.heads.get h

/-- Replaces the state of one head. -/
def State.putHead (s : State) (h : Fin 4) (x : Head) : State :=
  s.setHl { s.hl with heads := s.hl.heads.put h x }

/-- Whether a head is enabled: a head is DISABLED exactly when it is not (R46). -/
def Head.enabled (x : Head) : Bool := x.status != .disabled

/-- Whether a head is ACTIVE. -/
def Head.isActive (x : Head) : Bool := x.status == .active

/-! ### Readings that several blocks share -/

/-- The live coordinate: the accumulator divided by 65,536, rounded down (R28). -/
def LengthTracker.live (lt : LengthTracker) : Nat := lt.acc / 65536

/-- The residue: the remainder of that division (R28). -/
def LengthTracker.residue (lt : LengthTracker) : Nat := lt.acc % 65536

/-- A coordinate clamped to the largest (R86, R107). -/
def clampCoord (c : Nat) : Nat := min c maxCoord

/-- A die slot of the Context Controller. -/
def State.dieSlot (s : State) (i : Fin 8) : DieSlot := s.cc.slots[i]

/-- Replaces a die slot. -/
def State.putSlot (s : State) (i : Fin 8) (d : DieSlot) : State :=
  s.setCc { s.cc with slots := s.cc.slots.set i d }

/-- The parameters read where there is no active slot or record; no rule reads them there (R1, log 25). -/
def Params.absent : Params :=
  { echo := 0, pitch := 0, spacing := 0, binLen := 0, frontCrop := 0, backCrop := 0, stopHalf := 0,
    weldLead := 0, weldLen := 0, expansion := 0, tRef := 0, tDef := 0, minQuality := 0, policy := 0,
    ungaugedLimit := 0, burstLimit := 0 }

/-- The die parameter record of a slot. -/
def DieSlot.record (d : DieSlot) : Params := d.params.getD Params.absent

/-- The die parameter record of the active slot, which the blocks act on (R5). The slot is busy, so its record
is the one that stood at the commit. -/
def State.params (s : State) : Params :=
  match s.cc.active with
  | some i => (s.dieSlot i).record
  | none => Params.absent

/-- The gauges written as enabled (R7, R184). -/
def GaugeRec.enabled (g : GaugeRec) : Bool := g.enabledByte != 0

/-- The indices of the enabled gauges from index `k` on, ascending. -/
def enabledFrom : Nat → List GaugeRec → List Nat
  | _, [] => []
  | k, g :: gs => if g.enabled then k :: enabledFrom (k + 1) gs else enabledFrom (k + 1) gs

/-- The indices of the enabled gauges of the compiled copy (R112: the gauge entries of a bin). -/
def State.enabledGauges (s : State) : List Nat :=
  match s.ge.compiled with
  | some c => enabledFrom 0 c.gauges
  | none => []

/-- The referenced head set (R122, R138): the heads of the probes that the enabled gauges use. -/
def Compiled.referenced (c : Compiled) : HeadSet :=
  headSet fun h =>
    c.gauges.any fun g => g.enabled &&
      ((g.a :: g.b.toList).any fun i => (c.probes[i]?).any fun p => p.probe.head == h)

/-! ### Answers to commands -/

/-- What the block that owns a command gives back (R173 step 3): the state after the command, its result code, the detail
index, and the items of its reply. -/
structure Answer where
  st : State
  code : ResultCode
  detail : Nat
  items : Items
  deriving DecidableEq, Repr

/-- A command that is taken: a result code without a detail index, and the reply's items. -/
def State.taken (s : State) (code : ResultCode) (items : Items) : Answer := ⟨s, code, 0, items⟩

/-- A command refused with the status summary alone (R175). -/
def State.refuse (s : State) (code : ResultCode) (detail : Nat) : Answer := ⟨s, code, detail, .summaryOnly⟩

/-- The results that are not refusals (R176). -/
def ResultCode.isAnswer : ResultCode → Bool
  | .ok | .accepted | .noEffect => true
  | _ => false

end Sys2Proof.Machine
end

