-- ==== Sys2Proof/Machine/Flags.lean ====
section
/-! DEFINITION. Flags and sets: the bits of zone kinds, piece flags and alert flags, and the Alert Unit's rise,
acknowledgement, notice-enable set and alert frame (chapter 8). -/

namespace Sys2Proof.Machine

/-! ### Zone kinds, piece flags, alert flags: bits of their sets (R184) -/

/-- The bit of a zone kind. -/
def ZoneKind.bit : ZoneKind → ZoneSet
  | .stop => 1
  | .weld => 2
  | .frontCrop => 4
  | .backCrop => 8

/-- The bit of a piece flag. -/
def PieceFlag.bit : PieceFlag → PieceFlags
  | .continued => 1
  | .lateMark => 2
  | .estimatedMark => 4
  | .coalesced => 8
  | .headGap => 16

/-- The index of an alert flag (8.2). -/
def AlertFlag.index : AlertFlag → Nat
  | .pieceReady => 0
  | .reportOverrun => 1
  | .poolExhausted => 2
  | .burst => 3
  | .coordMatch => 4
  | .headLost => 5
  | .headSync => 6
  | .thermalHold => 7
  | .markOverflow => 8
  | .markLate => 9
  | .switchDone => 10
  | .switchFailed => 11
  | .haltDone => 12
  | .cmdOverflow => 13
  | .frameError => 14
  | .coordLimit => 15

/-- The bit of an alert flag (8.2, R184). -/
def AlertFlag.bit (f : AlertFlag) : FlagSet := BitVec.ofNat 16 (2 ^ f.index)

/-- Whether an alert flag is in a set of flags. -/
def FlagSet.has (fs : FlagSet) (f : AlertFlag) : Bool := fs.getLsbD f.index

/-! ### The Alert Unit's rise (R146, R147) -/

/-- A block raises a flag. A flag that is clear becomes set; if it is in the notice-enable set, it joins the newly
set flags of the pending alert frame, which forms if there is none. A flag already set: nothing. -/
def AlertUnit.rise (a : AlertUnit) (f : AlertFlag) : AlertUnit :=
  if FlagSet.has a.flags f then a
  else
    { a with
      flags := a.flags ||| f.bit
      newly := if FlagSet.has a.enable f then some (a.newly.getD 0 ||| f.bit) else a.newly }

/-- A block raises a flag in the Alert Unit (R146, R147). -/
def State.raise (s : State) (f : AlertFlag) : State := s.setAu (s.au.rise f)

/-- The newly set flags of a pending frame less the flags of `off`; an emptied frame is withdrawn (R149). -/
def withdraw (newly : Option FlagSet) (off : FlagSet) : Option FlagSet :=
  match newly with
  | none => none
  | some n => if n &&& ~~~off = 0 then none else some (n &&& ~~~off)

/-- ACK_ALERTS clears the flags of the mask, and takes them out of a pending frame (R149, R150). -/
def AlertUnit.ack (a : AlertUnit) (mask : FlagSet) : AlertUnit :=
  { a with flags := a.flags &&& ~~~mask, newly := withdraw a.newly (a.flags &&& mask) }

/-- SET_NOTICES replaces the notice-enable set, and takes what leaves it out of a pending frame (R149, R152). -/
def AlertUnit.setEnable (a : AlertUnit) (enable : FlagSet) : AlertUnit :=
  { a with enable := enable, newly := withdraw a.newly (~~~enable) }

end Sys2Proof.Machine
end

