-- ==== Sys2Proof/Machine/Alerts.lean ====
section
/-! DEFINITION. The Alert Unit's commands (chapter 8): SET_NOTICES, ACK_ALERTS and SET_MATCH. -/

namespace Sys2Proof.Machine

/-- SET_NOTICES (R152). -/
def State.setNotices (s : State) (enable : FlagSet) : Answer :=
  let s := s.setAu (s.au.setEnable enable)
  s.taken .ok (.notices s.au.enable s.au.flags)

/-- The Piece Tracker after flags are cleared (R126, R151): clearing BURST sets the burst counter to 0. -/
def State.reloadBurst (s : State) (cleared : FlagSet) : State :=
  if FlagSet.has cleared .burst then s.setPt { s.pt with burst := 0 } else s

/-- ACK_ALERTS (R150, R151). -/
def State.ackAlerts (s : State) (mask : FlagSet) : Answer :=
  let cleared := s.au.flags &&& mask
  let s := (s.setAu (s.au.ack mask)).reloadBurst cleared
  s.taken (if cleared = 0 then .noEffect else .ok) (.acked cleared s.au.flags)

/-- The items of a SET_MATCH reply (R154): the match, and the settled coordinate. -/
def State.matchItems (s : State) : Items := .matchState s.au.matchAt s.pt.settled

/-- SET_MATCH (R154): action 0 is DISARM, 1 is ARM (R185). Its refusals carry the items of "the reply" (log 13). -/
def State.setMatch (s : State) (action coord : Nat) : Answer :=
  match action with
  | 0 =>
    if s.au.matchAt.isSome then
      let s := s.setAu { s.au with matchAt := none }
      s.taken .ok s.matchItems
    else s.taken .noEffect s.matchItems
  | 1 =>
    if coord ≤ s.pt.settled then ⟨s, .badValue, 1, s.matchItems⟩
    else
      let s := s.setAu { s.au with matchAt := some coord }
      s.taken .ok s.matchItems
  | _ => ⟨s, .badValue, 0, s.matchItems⟩

end Sys2Proof.Machine
end

