-- ==== Sys2Proof/Machine/Pieces.lean ====
section
/-! DEFINITION. Bins, pieces, the bin pool and the settled coordinate (chapter 6), with the Report Queue's append and
drop (R157, R158) and the end of a halt (R132). -/

namespace Sys2Proof.Machine

/-! ### The Report Queue's drop and append -/

/-- The Report Queue drops its oldest report (R158). -/
def State.dropOldest (s : State) : State :=
  match s.rq.reports with
  | [] => s
  | r :: rest =>
    let s := s.setPt { s.pt with free := s.pt.free + r.bins.length }
    let s := s.setRq { reports := rest, lastDropped := some r.number, fetchPtr := 0 }
    s.raise .reportOverrun

/-- The Report Queue appends a closed piece report (R157): a queue of six drops its oldest first. -/
def State.appendReport (s : State) (r : Report) : State :=
  let s := if s.rq.reports.length < 6 then s else s.dropOldest
  let s := s.setRq { s.rq with reports := s.rq.reports ++ [r] }
  s.raise .pieceReady

/-! ### The end of a halt -/

/-- A bin or piece close reported to the Context Controller (R132): while HALTING it ends the halt. -/
def State.noteClose (s : State) : State :=
  if s.cc.engine = .halting then
    (s.setCc { s.cc with engine := .ready, haltBin := none }).raise .haltDone
  else s

/-! ### Bins -/

/-- The tags of the zones that are open (R108). -/
def State.openTags (s : State) : ZoneSet :=
  (if s.pk.stopZone.isSome then ZoneKind.stop.bit else 0) |||
  (if s.pk.weldZone.isSome then ZoneKind.weld.bit else 0) |||
  (if s.pt.frontCrop.isSome then ZoneKind.frontCrop.bit else 0)

/-- A bin as it opens at coordinate `p` with index `k` (R112). R112 and R114 give a bin's billet at its close; until then the
record holds 0, and in a coalesced bin the billet of the boundary before (DESIGN CHOICE, log 38). -/
def State.newBin (s : State) (p k : Nat) : Bin :=
  { index := k, start := p, stop := clampCoord (p + s.params.binLen), billet := 0, tags := s.openTags,
    sections := 0, notGauged := 0, tMin := none, tMax := none, coalesced := false, verdict := none,
    gauges := s.enabledGauges.map fun i => { idx := i, worst := .ungraded, dev := none } }

/-- Whether the end of a bin that runs for one bin length from `p` is a bin boundary: an end clamped at the largest
coordinate is not (R112, R115). -/
def State.boundedFrom (s : State) (p : Nat) : Bool := decide (p + s.params.binLen ≤ maxCoord)

/-- The verdict of a bin (R114). -/
def verdictOf (p : Params) (b : Bin) : Verdict :=
  if b.tags &&& p.policy ≠ 0 then .rejectZone
  else if b.gauges.any (fun g => g.worst == .out) then .rejectDim
  else if b.sections = 0 ∨ b.notGauged * 100 > p.ungaugedLimit * b.sections then .ungauged
  else if b.gauges.any (fun g => g.worst == .warn) then .acceptWarn
  else .accept

/-- A bin as it closes: it takes the gauge billet and its verdict (R114). -/
def State.closeBin (s : State) (b : Bin) : Bin :=
  let b := { b with billet := s.pk.gaugeBillet }
  { b with verdict := some (verdictOf s.params b) }

/-- The number of bin records the open piece holds (R123). -/
def Piece.binCount (p : Piece) : Nat := p.closed.length + 1

/-- The bins of the open piece, oldest first. -/
def Piece.bins (p : Piece) : List Bin := p.closed ++ [p.cur]

/-- Gives the open piece a flag. -/
def Piece.flag (p : Piece) (f : PieceFlag) : Piece := { p with flags := p.flags ||| f.bit }

/-- Changes the open piece, if there is one. -/
def State.mapPiece (s : State) (f : Piece → Piece) : State :=
  s.setPt { s.pt with piece := s.pt.piece.map f }

/-! ### Opening and closing a piece -/

/-- The close point of the front-crop zone of a piece that starts at `p` (R110), none for a front crop of 0. A close
point not above `p` makes a zone closed again at once (R108). -/
def State.frontCropFrom (s : State) (p : Nat) : Option Nat :=
  if p < clampCoord (p + s.params.frontCrop) then some (clampCoord (p + s.params.frontCrop)) else none

/-- The piece number after `n`: 1 follows 65,535 (R116). -/
def nextNumber (n : Nat) : Nat := if n < 65535 then n + 1 else 1

/-- A piece opens at `p` (R116): a drop if the pool is empty, the next number, the front-crop zone of a piece that is not
CONTINUED (R110), and bin 0 with the tags of the zones then open (R108). -/
def State.openPiece (s : State) (p : Nat) (continued : Bool) : State :=
  let s := if s.pt.free = 0 then s.dropOldest else s
  let s := s.setPt { s.pt with frontCrop := if continued then s.pt.frontCrop else s.frontCropFrom p }
  let frontTag : ZoneSet :=
    if continued then 0 else if s.params.frontCrop = 0 then 0 else ZoneKind.frontCrop.bit
  let bin := s.newBin p 0
  s.setPt { s.pt with
    nextPiece := nextNumber s.pt.nextPiece
    free := s.pt.free - 1
    episode := false
    piece := some
      { number := s.pt.nextPiece, start := p, flags := if continued then PieceFlag.continued.bit else 0,
        closed := [], cur := { bin with tags := bin.tags ||| frontTag }, bounded := s.boundedFrom p } }

/-- The back crop of a cut at `x` on one bin (R111): a bin that shares a coordinate with [x − back crop, x) takes the
BACK_CROP tag, and a bin whose tags change is judged again. -/
def backCropBin (p : Params) (x : Nat) (b : Bin) : Bin :=
  if max b.start (x - p.backCrop) < min b.stop x ∧ b.tags &&& ZoneKind.backCrop.bit = 0 then
    let b := { b with tags := b.tags ||| ZoneKind.backCrop.bit }
    { b with verdict := some (verdictOf p b) }
  else b

/-- The bins of a piece that closes at `e` (R117 step 1): the current bin closes with its end at `e`, or is removed when
it would be empty and the piece holds another. -/
def State.closingBins (s : State) (p : Piece) (e : Nat) : List Bin :=
  if e = p.cur.start ∧ p.closed ≠ [] then p.closed
  else p.closed ++ [s.closeBin { p.cur with stop := e }]

/-- The open piece closes with a reason at end `e` (R117). A close with reason DIE_END does not end a halt (R132). -/
def State.closePiece (s : State) (reason : CloseReason) (e : Nat) : State :=
  match s.pt.piece with
  | none => s
  | some p =>
    let bins := s.closingBins p e
    let back := p.binCount - bins.length
    let laid := if reason = .cut then bins.map (backCropBin s.params e) else bins
    let report : Report :=
      { number := p.number, slot := (s.cc.active.map Fin.val).getD 0, die := s.cc.activeDie.getD 0,
        reason := reason, flags := p.flags, start := p.start, stop := e, bins := laid }
    let s := s.setPt { s.pt with piece := none, free := s.pt.free + back }
    let s := s.appendReport report
    if reason = .dieEnd then s else s.noteClose

/-! ### The items along the profile (R105) -/

/-- The bin boundary at `e` (R115): the current bin closes; then the piece splits, a new bin opens, or the bin is
coalesced. -/
def State.applyBoundary (s : State) (e : Nat) : State :=
  match s.pt.piece with
  | none => s
  | some p =>
    if p.binCount < 256 then
      let done := s.closeBin p.cur
      let s := s.noteClose
      if 0 < s.pt.free then
        s.setPt { s.pt with
          free := s.pt.free - 1
          episode := false
          piece := some { p with
            closed := p.closed ++ [done], cur := s.newBin e p.binCount, bounded := s.boundedFrom e } }
      else
        let longer := { done with
          stop := clampCoord (e + s.params.binLen), verdict := none, coalesced := true }
        let s := if s.pt.episode then s else s.raise .poolExhausted
        s.setPt { s.pt with
          episode := true
          piece := some (Piece.flag { p with cur := longer, bounded := s.boundedFrom e } .coalesced) }
    else (s.closePiece .split e).openPiece e true

/-- The close point of a STOP or WELD mark (R107): the end belongs to a STOP zone and not to a WELD zone. -/
def Mark.closePoint (m : Mark) : Nat :=
  clampCoord (match m.kind with | .stop => m.stop + 1 | _ => m.stop)

/-- An open or closed zone after a mark with close point `c` is applied at `y` (R107, R108): a close point not above `y`
leaves the zone as it is, else the later close point stands. -/
def zoneAfter (zone : Option Nat) (c y : Nat) : Option Nat :=
  if c ≤ y then zone else some (max (zone.getD 0) c)

/-- A STOP or WELD mark applied at `y` (R107): its zone opens or is extended, the current bin takes the tag, a WELD sets
the gauge billet, and an ESTIMATED mark flags the piece. -/
def State.applyZone (s : State) (y : Nat) (m : Mark) : State :=
  let tag : ZoneSet := if m.kind = .weld then ZoneKind.weld.bit else ZoneKind.stop.bit
  let s := s.setPk <| if m.kind = .weld then
      { s.pk with weldZone := zoneAfter s.pk.weldZone m.closePoint y, gaugeBillet := m.billet.getD 0 }
    else { s.pk with stopZone := zoneAfter s.pk.stopZone m.closePoint y }
  s.mapPiece fun p =>
    let p := { p with cur := { p.cur with tags := p.cur.tags ||| tag } }
    if m.est then p.flag .estimatedMark else p

/-- A CUT applied at `x` (R118, R119): the piece closes with reason CUT and a piece opens; an ESTIMATED cut flags both. -/
def State.applyCut (s : State) (x : Nat) (est : Bool) : State :=
  let mark := fun (s : State) => if est then s.mapPiece (·.flag .estimatedMark) else s
  mark (((mark s).closePiece .cut x).openPiece x false)

/-- A zone state after the settled coordinate reaches `y` (R108). -/
def closeZoneAt (zone : Option Nat) (y : Nat) : Option Nat := if zone = some y then none else zone

/-- The boundary of the current bin, applied when its end is `y` and is a boundary (R105 step 3). -/
def State.boundaryAt (s : State) (y : Nat) : State :=
  match s.pt.piece with
  | none => s
  | some p => if p.bounded ∧ p.cur.stop = y then s.applyBoundary y else s

/-- The items at one coordinate `y`, in the order of R105: zone closes, the CUT, the bin boundary, STOP and WELD marks.
The marks leave the queue (R99). -/
def State.applyAt (s : State) (y : Nat) : State :=
  let s := s.setPk { s.pk with stopZone := closeZoneAt s.pk.stopZone y, weldZone := closeZoneAt s.pk.weldZone y }
  let s := s.setPt { s.pt with frontCrop := closeZoneAt s.pt.frontCrop y }
  let here := s.pk.queue.takeWhile (fun m => decide (m.start ≤ y))
  let s := s.setPk { s.pk with queue := s.pk.queue.dropWhile (fun m => decide (m.start ≤ y)) }
  let s := (here.filter (fun m => m.kind == .cut)).foldl (fun s m => s.applyCut y m.est) s
  let s := s.boundaryAt y
  (here.filter (fun m => m.kind != .cut)).foldl (fun s m => s.applyZone y m) s

/-- The coordinates at which an item may stand (R105): close points of open zones, the starts of queued marks, and the
end of the current bin where it is a boundary. -/
def State.itemCoords (s : State) : List Nat :=
  s.pk.stopZone.toList ++ s.pk.weldZone.toList ++ s.pt.frontCrop.toList ++ s.pk.queue.map Mark.start ++
  (match s.pt.piece with
   | some p => if p.bounded then [p.cur.stop] else []
   | none => [])

/-- The least element of a list. -/
def least : List Nat → Option Nat
  | [] => none
  | a :: as => match least as with
    | none => some a
    | some b => some (min a b)

/-- The next coordinate above `y` and at or below `limit` at which an item stands. -/
def State.nextItem (s : State) (y limit : Nat) : Option Nat :=
  least (s.itemCoords.filter fun c => decide (y < c ∧ c ≤ limit))

/-- Applies the items above `y` and at or below `limit` in ascending order (R105), `n` bounding their number. -/
def State.walk : Nat → State → Nat → Nat → State
  | 0, s, _, _ => s
  | n + 1, s, y, limit => match s.nextItem y limit with
    | none => s
    | some c => State.walk n (s.applyAt c) c limit

/-- The coordinate match sees an advance from `a` to `b` (R153). An advance that stops exactly at the match coordinate fires,
though a section triggered there may still be pending or awaited (DESIGN CHOICE, log 39). -/
def State.offerMatch (s : State) (a b : Nat) : State :=
  match s.au.matchAt with
  | none => s
  | some k =>
    if a < k ∧ k ≤ b then (s.setAu { s.au with matchAt := none }).raise .coordMatch else s

/-- The settled coordinate advances to `c` (R104, R105), if it lies above; not without an open piece. -/
def State.advanceTo (s : State) (c : Nat) : State :=
  if s.pt.piece.isSome ∧ s.pt.settled < c then
    let a := s.pt.settled
    let s := State.walk (c - a) s a c
    let s := s.setPt { s.pt with settled := c }
    s.offerMatch a c
  else s

/-- The target of the settled coordinate (R104). -/
def State.target (s : State) : Nat :=
  let t := s.pt.presented
  let t := match s.sa.pend with
    | [] => t
    | p :: _ => min t p.coord
  match s.pt.awaited with
  | [] => t
  | x :: _ => min t x

/-- The Piece Tracker computes the target and advances the settled coordinate to it (R104). -/
def State.advance (s : State) : State := s.advanceTo s.target

/-- The Length Tracker presents a live coordinate (R30, R104). -/
def State.present (s : State) (c : Nat) : State :=
  (s.setPt { s.pt with presented := c }).advance

/-! ### Applying a section (R106) -/

/-- A gauge class as a bin's worst class counts it (R113). -/
def GaugeClass.grade : GaugeClass → WorstClass
  | .inTol => .inTol
  | .warnLo | .warnHi => .warn
  | .outLo | .outHi => .out
  | .notGauged => .ungraded

/-- The order OUT above WARN above IN above NONE (R113); also the codes of R184. -/
def WorstClass.code : WorstClass → Nat
  | .ungraded => 0
  | .inTol => 1
  | .warn => 2
  | .out => 3

/-- The higher of two worst classes; the first on equality. -/
def WorstClass.higher (a b : WorstClass) : WorstClass := if a.code < b.code then b else a

/-- The worst deviation after another: the one of greater magnitude, the earlier on equal magnitudes (R113, R119). -/
def worseDev (a b : Option Int) : Option Int :=
  match a, b with
  | none, b => b
  | a, none => a
  | some x, some y => if x.natAbs < y.natAbs then some y else some x

/-- One gauge of a bin after a section's gauge entries (R113): a NOT_GAUGED gauge leaves it. -/
def countGauge (entries : List GaugeEntry) (g : BinGauge) : BinGauge :=
  match entries.find? (fun e => e.idx == g.idx) with
  | none => g
  | some e =>
    if e.cls = .notGauged then g
    else { g with worst := g.worst.higher e.cls.grade, dev := worseDev g.dev e.dev }

/-- A section counted into a bin (R113). -/
def countSection (r : SecResult) (b : Bin) : Bin :=
  { b with
    sections := min (b.sections + 1) 65535
    notGauged := if r.gauges.any (fun e => e.cls == .notGauged) then min (b.notGauged + 1) 65535 else b.notGauged
    tMin := some (match b.tMin with | none => r.temp | some t => min t r.temp)
    tMax := some (match b.tMax with | none => r.temp | some t => max t r.temp)
    gauges := b.gauges.map (countGauge r.gauges) }

/-- Whether a section lacks a referenced head (R106 step 2, R122). -/
def State.lacksHead (s : State) (r : SecResult) : Bool :=
  match s.ge.compiled with
  | none => false
  | some c => c.referenced &&& ~~~r.contrib != 0

/-- Whether a zone is open whose kind is in the discard policy (R125). -/
def State.inDiscardZone (s : State) : Bool := s.openTags &&& s.params.policy != 0

/-- The burst counter at an applied section (R125). -/
def State.countBurst (s : State) (r : SecResult) : State :=
  if s.params.burstLimit = 0 then s.setPt { s.pt with burst := 0 }
  else if FlagSet.has s.au.flags .burst then s
  else if s.inDiscardZone then s
  else if r.gauges.any (fun e => e.cls == .outLo || e.cls == .outHi) then
    let s := s.setPt { s.pt with burst := s.pt.burst + 1 }
    if s.params.burstLimit ≤ s.pt.burst then s.raise .burst else s
  else s.setPt { s.pt with burst := 0 }

/-- The trace of a section result counted into a piece (R168). -/
def traceOf (r : SecResult) (piece : Nat) : Trace :=
  { seq := r.seq, coord := r.coord, temp := r.temp, held := r.held, piece := piece,
    gauges := r.gauges.map fun e => { idx := e.idx, cold := e.cold, cls := e.cls } }

/-- The trace offer (R167): every Nth offered result is placed in the trace buffer, replacing an unsent trace. -/
def State.offerTrace (s : State) (r : SecResult) : State :=
  if s.lp.traceN = 0 then s
  else if s.lp.decim + 1 < s.lp.traceN then s.setLp { s.lp with decim := s.lp.decim + 1 }
  else
    s.setLp { s.lp with
      decim := 0
      traceBuf := some (traceOf r ((s.pt.piece.map Piece.number).getD 0))
      replaced := if s.lp.traceBuf.isSome then min (s.lp.replaced + 1) 255 else s.lp.replaced }

/-- The Piece Tracker applies a section result (R106). -/
def State.applyResult (s : State) (r : SecResult) : State :=
  let s := s.advanceTo r.coord
  let s := s.mapPiece fun p => { p with cur := countSection r p.cur }
  let s := if s.lacksHead r then s.mapPiece (·.flag .headGap) else s
  let s := s.countBurst r
  let s := s.offerTrace r
  let s := s.setPt { s.pt with awaited := s.pt.awaited.drop 1 }
  s.advance

/-- SECTION_APPLICATION: the oldest result passed to the Piece Tracker is applied (R106); nothing when none waits. -/
def State.applySection (s : State) : State :=
  match s.pt.results with
  | [] => s
  | r :: rest => (s.setPt { s.pt with results := rest }).applyResult r

/-! ### Late marks (R97, R109, R119) -/

/-- Two bins folded into one (R119): `a` is the earlier. -/
def foldGauge (g h : BinGauge) : BinGauge :=
  { g with worst := g.worst.higher h.worst, dev := worseDev g.dev h.dev }

/-- The least of two optional temperatures. -/
def optMin : Option Nat → Option Nat → Option Nat
  | none, b => b
  | a, none => a
  | some x, some y => some (min x y)

/-- The greatest of two optional temperatures. -/
def optMax : Option Nat → Option Nat → Option Nat
  | none, b => b
  | a, none => a
  | some x, some y => some (max x y)

/-- A later bin `b` folded into the bin `a` (R119); the verdict is undecided. -/
def foldBin (a b : Bin) : Bin :=
  { a with
    sections := min (a.sections + b.sections) 65535
    notGauged := min (a.notGauged + b.notGauged) 65535
    tMin := optMin a.tMin b.tMin
    tMax := optMax a.tMax b.tMax
    tags := a.tags ||| b.tags
    coalesced := a.coalesced || b.coalesced
    verdict := none
    gauges := List.zipWith foldGauge a.gauges b.gauges }

/-- The open piece after the bins that start at or above `x` are folded into the last bin that starts below `x`
(R119), which becomes the current bin. -/
def Piece.foldAt (p : Piece) (x : Nat) : Piece :=
  let keep := p.bins.filter (fun b => decide (b.start < x))
  let gone := p.bins.filter (fun b => decide (x ≤ b.start))
  match keep.getLast? with
  | none => p
  | some last => { p with closed := keep.dropLast, cur := gone.foldl foldBin { last with verdict := none } }

/-- The open piece takes LATE_MARK and MARK_LATE is raised (R97). -/
def State.flagLate (s : State) : State := (s.mapPiece (·.flag .lateMark)).raise .markLate

/-- A late CUT at `x` above the open piece's start (R119): the piece takes LATE_MARK, its bins at or above `x` are
folded, it closes at `x`, a piece opens at `x`, and the new piece is walked up to the settled coordinate. -/
def State.lateCut (s : State) (x : Nat) (est : Bool) : State :=
  let s := s.flagLate
  let gone := match s.pt.piece with
    | none => 0
    | some p => p.binCount - (p.foldAt x).binCount
  let s := s.setPt { s.pt with piece := s.pt.piece.map (·.foldAt x), free := s.pt.free + gone }
  let s := s.applyCut x est
  State.walk (s.pt.settled - x) s x s.pt.settled

/-- A late STOP or WELD mark (R109): applied at the settled coordinate, and the open piece takes LATE_MARK. -/
def State.lateZone (s : State) (m : Mark) : State := s.flagLate.applyZone s.pt.settled m

end Sys2Proof.Machine
end

