-- ==== Sys2Proof/Machine/Layout.lean ====
section
/-! DEFINITION. The bytes of the frames the part sends (R183 to R186): the reply, alert and trace frames of the line link
and the trigger frame of the head links. -/

namespace Sys2Proof.Machine

/-! ### Fields (R184) -/

/-- A one-byte unsigned field. -/
def u1 (v : Nat) : List Byte := leBytes 1 v

/-- A two-byte unsigned field. -/
def u2 (v : Nat) : List Byte := leBytes 2 v

/-- A four-byte unsigned field: a coordinate, a CRC. -/
def u4 (v : Nat) : List Byte := leBytes 4 v

/-- A four-byte signed field: a dimension, an offset, a deviation, a cold value. -/
def i4 (v : Int) : List Byte := leIntBytes 4 v

/-- A dimension that may be absent: absent is −2,147,483,648. -/
def dimension (v : Option Int) : List Byte := i4 (v.getD (-2147483648))

/-- A temperature that may be absent: absent is 65,535. -/
def temperature (v : Option Nat) : List Byte := u2 (v.getD 65535)

/-- A mark: set is 1, clear is 0. -/
def flagByte (b : Bool) : List Byte := u1 b.toNat

/-- A slot number: none is 255. -/
def slotByte (i : Option (Fin 8)) : List Byte := u1 ((i.map Fin.val).getD 255)

/-- A die ID or piece number: none is 0. -/
def number (n : Option Nat) : List Byte := u2 (n.getD 0)

/-- A digest: presence, then the CRC-32; absent sends presence 0 and a CRC of 0. -/
def digestBytes (d : Option (BitVec 32)) : List Byte := flagByte d.isSome ++ u4 (d.getD 0).toNat

/-- A coordinate that may be absent; R184 states no encoding of absent (log 11). -/
def coordinate (c : Option Nat) : List Byte :=
  match c with
  | some v => u4 v
  | none => Config.absentCoordinate

/-- The values of the four heads, heads 0 to 3. -/
def PerHead.bytes {α : Type} (p : PerHead α) (f : α → List Byte) : List Byte := f p.h0 ++ f p.h1 ++ f p.h2 ++ f p.h3

/-! ### Codes of the enumerations (R184, in the order of the rule that defines each) -/

def EngineState.code : EngineState → Nat
  | .idle => 0
  | .switching => 1
  | .ready => 2
  | .running => 3
  | .halting => 4

def PressState.code : PressState → Nat
  | .unknown => 0
  | .stopped => 1
  | .pushing => 2

def HeadStatus.code : HeadStatus → Nat
  | .disabled => 0
  | .hunting => 1
  | .active => 2
  | .lost => 3

def SlotState.code : SlotState → Nat
  | .empty => 0
  | .loading => 1
  | .sealed => 2

def ResultCode.code : ResultCode → Nat
  | .ok => 0
  | .accepted => 1
  | .noEffect => 2
  | .unknownCommand => 3
  | .lengthMismatch => 4
  | .badValue => 5
  | .busy => 6
  | .wrongState => 7
  | .tableOverrun => 8
  | .sealCheck => 9
  | .noContext => 10
  | .alreadyActive => 11
  | .headUnavailable => 12
  | .noLink => 13
  | .staleLink => 14
  | .queueFull => 15
  | .empty => 16

def GaugeClass.code : GaugeClass → Nat
  | .inTol => 0
  | .warnLo => 1
  | .warnHi => 2
  | .outLo => 3
  | .outHi => 4
  | .notGauged => 5

def Verdict.code : Verdict → Nat
  | .accept => 0
  | .acceptWarn => 1
  | .ungauged => 2
  | .rejectDim => 3
  | .rejectZone => 4

def CloseReason.code : CloseReason → Nat
  | .cut => 0
  | .split => 1
  | .dieEnd => 2

def MarkKind.code : MarkKind → Nat
  | .cut => 0
  | .stop => 1
  | .weld => 2

def HeadFault.code : HeadFault → Nat
  | .clear => 0
  | .symbol => 1
  | .lock => 2
  | .count => 3
  | .length => 4
  | .crc => 5
  | .headId => 6
  | .order => 7
  | .range => 8

def LineFault.code : LineFault → Nat
  | .clear => 0
  | .symbol => 1
  | .lock => 2
  | .kind => 3
  | .size => 4
  | .length => 5
  | .crc => 6

def Disposition.code : Disposition → Nat
  | .noMark => 0
  | .queued => 1
  | .appliedLate => 2
  | .dropped => 3
  | .duplicate => 4
  | .lost => 5

def OutcomeKind.code : OutcomeKind → Nat
  | .unset => 0
  | .pending => 1
  | .clean => 2
  | .degraded => 3

/-! ### Records -/

/-- The status summary: 11 bytes (R186). -/
def Summary.bytes (m : Summary) : List Byte :=
  u1 m.engine.code ++ slotByte m.active ++ u1 m.press.code ++ m.heads.bytes (fun h => u1 h.code) ++ u1 m.reports ++
  flagByte m.alert ++ u1 m.marks ++ u1 m.result.code

/-- The identity record: 16 bytes (R178, 11.5). -/
def identityRecord : List Byte :=
  u2 5203 ++ u2 24 ++ u1 1 ++ u1 8 ++ u1 32 ++ u1 64 ++ u1 32 ++ u1 4 ++ u1 4 ++ u1 16 ++ u2 1024 ++ u1 6 ++ u1 4

/-- The error record, or that it is empty; R184 states no encoding of empty (R177, log 11). -/
def errorBytes (e : Option ErrorRec) : List Byte :=
  match e with
  | some r => [r.code] ++ [r.tag] ++ u1 r.result.code ++ u1 r.detail
  | none => Config.emptyErrorRecord

/-- A link: the previous slot and its generation; R184 states no generation for none (log 11). -/
def linkBytes (l : Option SlotLink) : List Byte :=
  slotByte (l.map SlotLink.slot) ++ (match l with
    | some r => u2 r.gen.toNat
    | none => Config.noLinkGeneration)

/-- A head status record (R54). The scale takes the two signed bytes it has in SET_HEAD_CAL (log 12). -/
def HeadRecord.bytes (h : HeadRecord) : List Byte :=
  flagByte h.enabled ++ u1 h.status.code ++ u1 h.miss ++ u1 h.recov ++ u1 h.fault.code ++ i4 h.ox ++ i4 h.oy ++
  leIntBytes 2 h.scale

/-- The head items (R54). -/
def HeadItems.bytes (h : HeadItems) : List Byte :=
  u1 h.timeout ++ u1 h.lostM ++ u1 h.recR ++ h.heads.bytes HeadRecord.bytes

/-- The QUERY_SLOT items (R21). -/
def SlotItems.bytes (q : SlotItems) : List Byte :=
  u1 q.state.code ++ u2 q.gen.toNat ++ flagByte q.busy ++ linkBytes q.link ++ flagByte q.paramsWritten ++ u1 q.probesWritten ++
  u1 q.probePtr ++ u1 q.gaugesWritten ++ u1 q.gaugePtr ++ digestBytes q.digest

/-- The mark of a notice reply (R94, R102). -/
def markBytes (m : Option Mark) : List Byte :=
  match m with
  | some k =>
    u1 k.kind.code ++ u4 k.start ++ u4 k.stop ++ (match k.billet with
      | some b => u2 b
      | none => Config.absentBillet) ++ flagByte k.est
  | none => Config.absentMark

/-- The items of a notice reply (R102). -/
def NoticeItems.bytes (n : NoticeItems) : List Byte :=
  coordinate n.looked ++ flagByte n.est ++ coordinate n.formed ++ u1 n.disposition.code ++ markBytes n.mark

/-- The piece report header: 32 bytes (R186). -/
def ReportHeader.bytes (h : ReportHeader) : List Byte :=
  u2 h.number ++ u1 h.slot ++ u1 h.reason.code ++ u2 h.die ++ u1 h.flags.toNat ++ u1 h.gauges ++ u2 h.bins ++
  u4 h.start ++ u4 h.stop ++ u2 h.firstBillet ++ u2 h.lastBillet ++ u2 h.accept ++ u2 h.acceptWarn ++ u2 h.ungauged ++
  u2 h.rejectDim ++ u2 h.rejectZone

/-- A gauge entry of a bin record: 6 bytes (R186). -/
def BinGauge.bytes (g : BinGauge) : List Byte := u1 g.idx ++ u1 g.worst.code ++ dimension g.dev

/-- A bin record: 22 + 6 × g bytes (R186). Every bin of a report has its verdict. -/
def Bin.bytes (b : Bin) : List Byte :=
  u1 b.index ++ u4 b.start ++ u4 b.stop ++ u2 b.billet ++ u1 b.tags.toNat ++ flagByte b.coalesced ++
  u1 ((b.verdict.map Verdict.code).getD 0) ++ u2 b.sections ++ u2 b.notGauged ++ temperature b.tMin ++
  temperature b.tMax ++ b.gauges.flatMap BinGauge.bytes

/-- The items of a fetch reply (R162, R186). -/
def FetchItems.bytes (f : FetchItems) : List Byte :=
  f.header.bytes ++ u2 f.first ++ u1 f.returned ++ number f.lastDropped ++ f.bins.flatMap Bin.bytes

/-- The halt bin (R128); R184 states no bin index for none (log 11). -/
def haltBytes (h : Option HaltBin) : List Byte :=
  match h with
  | some b => u2 b.piece ++ u1 b.bin
  | none => number none ++ Config.noHaltBinIndex

/-- The switch outcome record (R128). -/
def SwitchOutcome.bytes (o : SwitchOutcome) : List Byte :=
  u1 o.kind.code ++ slotByte o.slot ++ number o.die ++ flagByte o.reverted ++ u1 o.missing.toNat

/-- The stop record (R84); R184 states no encoding of absent (log 11). -/
def stopBytes (r : Option StopRec) : List Byte :=
  match r with
  | some k => u4 k.coord ++ flagByte k.est
  | none => Config.absentStopRecord

/-- The match state and coordinate (R154, R179); R184 states no coordinate for disarmed (log 11). -/
def matchBytes (m : Option Nat) : List Byte :=
  match m with
  | some c => flagByte true ++ u4 c
  | none => flagByte false ++ Config.disarmedMatchCoordinate

/-- The GET_STATUS items, in the groups of R179. -/
def StatusItems.bytes (t : StatusItems) : List Byte :=
  number t.activeDie ++ haltBytes t.haltBin ++ t.outcome.bytes ++
  u4 t.live ++ u4 t.settled ++ u2 t.debt ++ flagByte t.limit ++
  u2 t.pressBillet ++ u2 t.gaugeBillet ++ stopBytes t.stopRec ++
  t.heads.bytes ++
  u2 t.seq.toNat ++ u1 t.pendingSections ++ u2 t.heldTemp ++ u2 t.noReading ++
  number t.openPiece ++ u2 t.openBins ++ u2 t.freeBins ++ u1 t.burst ++
  u2 t.fetchPtr ++ number t.lastDropped ++ t.queued.flatMap u2 ++
  u2 t.flags.toNat ++ u2 t.enable.toNat ++ matchBytes t.matchAt ++ [t.alertNumber] ++
  u1 t.commandQueue ++ u1 t.traceN ++ u1 t.replaced ++ u1 t.lineFault.code

/-- The bytes that a reply carries after the status summary (R184: items in the order of their rule). -/
def Items.bytes : Items → List Byte
  | .summaryOnly => []
  | .identity => identityRecord
  | .errorRecord e => errorBytes e
  | .status t => t.bytes
  | .heads h => h.bytes
  | .tableWrite ptr written => u1 ptr ++ u1 written
  | .checkFailed check detail => u1 check ++ u1 detail
  | .sealed d => digestBytes (some d)
  | .slot q => q.bytes
  | .entries n => u1 n
  | .switched target left link => slotByte (some target) ++ slotByte left ++ linkBytes link
  | .notice n => n.bytes
  | .fetch f => f.bytes
  | .fetchPointer piece bins ptr => u2 piece ++ u2 bins ++ u2 ptr
  | .released piece records oldest lastDropped => number piece ++ u2 records ++ number oldest ++ number lastDropped
  | .traceN n => u1 n
  | .notices enable flags => u2 enable.toNat ++ u2 flags.toNat
  | .acked cleared flags => u2 cleared.toNat ++ u2 flags.toNat
  | .matchState m settled => matchBytes m ++ u4 settled

/-! ### Frames -/

/-- A line-link frame: the envelope, the payload and the CRC-32 (R185). -/
def envelope (kind : Nat) (tag code : Byte) (payload : List Byte) : List Byte :=
  withCrc (u1 kind ++ [tag] ++ [code] ++ u2 payload.length ++ payload)

/-- The payload of an alert frame: 10 bytes (R148, 11.5). -/
def AlertBody.bytes (a : AlertBody) : List Byte :=
  [a.number] ++ u2 a.newly.toNat ++ u2 a.flags.toNat ++ u1 a.engine.code ++ u4 a.settled

/-- The payload of a trace frame: 13 + 6 × g bytes (R168, 11.5). -/
def traceBytes (replaced : Nat) (t : Trace) : List Byte :=
  u1 replaced ++ u2 t.seq.toNat ++ u4 t.coord ++ u2 t.temp ++ flagByte t.held ++ u2 t.piece ++ u1 t.gauges.length ++
  t.gauges.flatMap fun g => u1 g.idx ++ dimension g.cold ++ u1 g.cls.code

/-- The bytes of an outbound line-link frame after its frame-start symbol (R175, R180, R185). -/
def OutFrame.wire : OutFrame → List Byte
  | .reply r => envelope 2 r.tag r.code (r.summary.bytes ++ r.items.bytes)
  | .alert a => envelope 3 0 0 a.bytes
  | .trace replaced t => envelope 4 0 0 (traceBytes replaced t)

/-- The bytes of a trigger frame after its frame-start symbol: 10 bytes (R40, 11.2). -/
def TriggerFrame.wire (f : TriggerFrame) : List Byte := withCrc (u2 f.seq.toNat ++ u4 f.coord)

end Sys2Proof.Machine
end

