-- ==== Sys2Proof/Machine/Sections.lean ====
section
/-! DEFINITION. The Head Link Ports and the Section Assembler (chapter 3): frame checks, head states, placement,
completion and retirement. -/

namespace Sys2Proof.Machine

/-! ### Checking a section frame (R44, R45, 11.2) -/

/-- A good section frame: its sequence number and what a pending slot keeps of it. -/
structure GoodFrame where
  seq : Seq
  frame : SecFrame
  deriving DecidableEq, Repr

/-- One point of its 9 bytes (11.2). -/
def pointOf (r : List Byte) : Point := { u := intAt r 0 4, w := natAt r 4 4, quality := natAt r 8 1 }

/-- Whether the points are in strictly ascending order of u (R45 check 6). -/
def ascendingU : List Point → Bool
  | a :: b :: rest => decide (a.u < b.u) && ascendingU (b :: rest)
  | _ => true

/-- Whether a point lies in range (R45 check 7). -/
def Point.inRange (p : Point) : Bool := decide (-200000 ≤ p.u ∧ p.u ≤ 200000 ∧ p.w ≤ 500000)

/-- The temperature reading of its two bytes: 65,535 is absent, a reading above 7,000 is clamped (R45, 11.2). -/
def readingOf (v : Nat) : Option Nat := if v = 65535 then none else some (min v 7000)

/-- The checks 2 to 7 of R45 on the bytes of a frame of the head on port `h`, in their order. A frame that ends before
its point count has come fails check 3, since a frame-start symbol came before its last byte (log 20). -/
def checkSectionFrame (h : Fin 4) (bs : List Byte) : Except HeadFault GoodFrame :=
  let n := natAt bs 5 2
  let points := (List.map pointOf (List.map (fun k => (bs.drop (7 + 9 * k)).take 9) (List.range n)))
  if bs.length < 7 then .error .length
  else if 960 < n then .error .count
  else if bs.length < 11 + 9 * n then .error .length
  else if !crcMatches bs (7 + 9 * n) then .error .crc
  else if natAt bs 0 1 ≠ h.val then .error .headId
  else if !ascendingU points then .error .order
  else if !points.all Point.inRange then .error .range
  else .ok { seq := BitVec.ofNat 16 (natAt bs 1 2), frame := { temp := readingOf (natAt bs 3 2), points := points } }

/-! ### The completion test (R57) -/

/-- Whether a slot waits for a head (R57): the head is ACTIVE, the slot holds no frame of it, and it is not passed. -/
def State.waitsFor (s : State) (p : PendSlot) (h : Fin 4) : Bool :=
  (s.head h).isActive && (p.frames.get h).isNone && !HeadSet.has p.passed h

/-- The slot made COMPLETE (R57): its contributing head set is the ACTIVE heads whose frame it holds. -/
def State.complete (s : State) (p : PendSlot) : PendSlot :=
  { p with contrib := some (headSet fun h => (s.head h).isActive && (p.frames.get h).isSome) }

/-- The completion test of one slot (R57): a WAITING slot that waits for no head becomes COMPLETE. -/
def State.testSlot (s : State) (p : PendSlot) : PendSlot :=
  if p.contrib.isNone && !(allHeads.any (s.waitsFor p)) then s.complete p else p

/-- The completion test of every WAITING slot (R57). -/
def State.testSlots (s : State) : State := s.setSa { s.sa with pend := s.sa.pend.map s.testSlot }

/-! ### Retirement (R59) -/

/-- The temperature readings of the contributing heads that are present (R61). -/
def readings (p : PendSlot) (contrib : HeadSet) : List Nat :=
  allHeads.filterMap fun h =>
    if HeadSet.has contrib h then (p.frames.get h).bind (fun f => f.temp) else none

/-- The rounded mean of the readings (R61): the quotient, plus one when twice the remainder is at least their number. -/
def meanReading (ts : List Nat) : Nat :=
  ts.sum / ts.length + if ts.length ≤ 2 * (ts.sum % ts.length) then 1 else 0

/-- The section temperature and the temperature-held flag of a retiring slot, the held temperature and the no-reading
run count after it, with THERMAL_HOLD raised at a run of exactly 200 (R61). -/
def State.sectionTemperature (s : State) (p : PendSlot) (contrib : HeadSet) : Nat × Bool × State :=
  match readings p contrib with
  | [] =>
    let run := min (s.sa.noReading + 1) 65535
    let s' := s.setSa { s.sa with noReading := run }
    (s.sa.heldTemp, true, if run = 200 then s'.raise .thermalHold else s')
  | t :: ts =>
    let mean := meanReading (t :: ts)
    (mean, false, s.setSa { s.sa with heldTemp := mean, noReading := 0 })

/-- What a handed section carries of a contributing head (R59 step 2): its points and its calibration now. -/
def State.headData (s : State) (p : PendSlot) (contrib : HeadSet) (h : Fin 4) : Option HeadData :=
  if HeadSet.has contrib h then
    (p.frames.get h).map fun f =>
      { points := f.points, ox := (s.head h).ox, oy := (s.head h).oy, scale := (s.head h).scale }
  else none

/-- The section is handed to the Gauge Engine and its coordinate joins the awaited sections (R59 step 2, R103). -/
def State.hand (s : State) (p : PendSlot) (contrib : HeadSet) (temp : Nat) (held : Bool) : State :=
  let section_ : Handed :=
    { seq := p.seq, coord := p.coord, temp := temp, held := held, contrib := contrib,
      heads := perHead (s.headData p contrib) }
  let s := s.setGe { s.ge with handed := s.ge.handed ++ [section_] }
  s.setPt { s.pt with awaited := s.pt.awaited ++ [p.coord] }

/-- One head after a retirement (R49, R50): an ACTIVE head's misses are counted, and a LOST head whose frame is missing
loses its recovery count. -/
def Head.afterRetire (lostM : Nat) (x : Head) (holdsFrame : Bool) : Head :=
  match x.status with
  | .active =>
    if holdsFrame then { x with miss := 0 }
    else if x.miss + 1 < lostM then { x with miss := x.miss + 1 }
    else { x with status := .lost, miss := 0, recov := 0 }
  | .lost => if holdsFrame then x else { x with recov := 0 }
  | _ => x

/-- The Head Link Ports count misses against a retired slot's frames (R59 step 3), raising HEAD_LOST for a head that
becomes LOST. That all heads are counted before a slot is tested is the model's choice (DESIGN CHOICE, log 43). -/
def State.countMisses (s : State) (p : PendSlot) : State :=
  let heads := perHead fun h => Head.afterRetire s.hl.lostM (s.head h) (p.frames.get h).isSome
  let lost := allHeads.any fun h => (s.head h).isActive && !(heads.get h).isActive
  let s := s.setHl { s.hl with heads := heads }
  if lost then s.raise .headLost else s

/-- The oldest slot retires (R59 steps 1 to 4), and its departure from the trigger order lets the settled coordinate
advance (R104). That the slots are tested once, after every head that becomes LOST here has changed, is the model's choice
(DESIGN CHOICE, log 43). -/
def State.retire (s : State) (p : PendSlot) (contrib : HeadSet) : State :=
  let (temp, held, s) := s.sectionTemperature p contrib
  let s := s.hand p contrib temp held
  let s := s.countMisses p
  let s := s.testSlots
  let s := s.setSa { s.sa with pend := s.sa.pend.drop 1 }
  s.advance

/-- Retires while the oldest slot is COMPLETE (R59 step 5), at most `n` times. -/
def State.retireUpTo : Nat → State → State
  | 0, s => s
  | n + 1, s => match s.sa.pend with
    | p :: _ => match p.contrib with
      | some contrib => State.retireUpTo n (s.retire p contrib)
      | none => s
    | [] => s

/-- The cascade of retirements (R59). -/
def State.cascade (s : State) : State := State.retireUpTo s.sa.pend.length s

/-- Tests the WAITING slots and retires what has become COMPLETE (R57, R59). That every slot is tested before the first one
retires is DEDUCED (log 45). -/
def State.settleSections (s : State) : State := s.testSlots.cascade

/-! ### Good and faulty frames (R45 to R50, R56) -/

/-- The window of recent triggers (R50): whether a sequence number is one of the last four issued since the reset. -/
def Assembler.inWindow (a : Assembler) (n : Seq) : Bool :=
  (List.range (min a.issued 4)).any fun k => a.seq - 1 - BitVec.ofNat 16 k == n

/-- A head that enters ACTIVE (R47, R50). -/
def Head.toActive (x : Head) : Head := { x with status := .active, miss := 0, recov := 0 }

/-- A head after a good frame whose sequence number is, or is not, in the window (R47, R50). -/
def Head.afterGood (recR : Nat) (x : Head) (inWindow : Bool) : Head :=
  match x.status with
  | .hunting => x.toActive
  | .lost =>
    if inWindow then if x.recov + 1 < recR then { x with recov := x.recov + 1 } else x.toActive
    else { x with recov := 0 }
  | _ => x

/-- A head after a frame with a fault other than SYMBOL and LOCK (R45, R48, R50). -/
def Head.afterFault (x : Head) (f : HeadFault) : Head :=
  { x with fault := f, recov := if x.status = .lost then 0 else x.recov }

/-- The slots after a good frame of head `h` with sequence number `n` is placed (R56): recorded in the WAITING slot of that
number unless it holds one already, and WAITING slots older than the matching slot without a frame of `h` pass `h` over. -/
def placeFrame (h : Fin 4) (n : Seq) (f : SecFrame) : List PendSlot → List PendSlot
  | [] => []
  | p :: rest =>
    if p.seq = n then
      (if p.contrib.isNone ∧ (p.frames.get h).isNone then { p with frames := p.frames.put h (some f) } else p) :: rest
    else
      (if rest.any (fun q => q.seq == n) ∧ p.contrib.isNone ∧ (p.frames.get h).isNone then
        { p with passed := HeadSet.add p.passed h } else p) :: placeFrame h n f rest

/-- A good frame: the head's state (R47, R50), the placement (R56), the completion test and the retirements. -/
def State.goodFrame (s : State) (h : Fin 4) (g : GoodFrame) : State :=
  let s := s.putHead h (Head.afterGood s.hl.recR (s.head h) (s.sa.inWindow g.seq))
  let s := s.setSa { s.sa with pend := placeFrame h g.seq g.frame s.sa.pend }
  s.settleSections

/-- A frame comes to its end at a port, without a symbol error (R45). -/
def State.sectionFrame (s : State) (h : Fin 4) (bs : List Byte) : State :=
  match checkSectionFrame h bs with
  | .error f => s.putHead h ((s.head h).afterFault f)
  | .ok g => s.goodFrame h g

/-! ### Lock and symbol errors (R44, R48) -/

/-- A fault LOCK or SYMBOL at a head (R47, R48): an ACTIVE or LOST head goes to HUNTING with its counts 0 and HEAD_SYNC
raised, and the slots are tested; a HUNTING head stays HUNTING. -/
def State.headDown (s : State) (h : Fin 4) (f : HeadFault) (lock : Bool) : State :=
  let x := { s.head h with fault := f, lock := lock }
  if x.status = .active ∨ x.status = .lost then
    ((s.putHead h { x with status := .hunting, miss := 0, recov := 0 }).raise .headSync).settleSections
  else s.putHead h x

/-- HEAD_LOCK_LOSS (R48): nothing at a receiver that holds no lock. -/
def State.headLockLoss (s : State) (h : Fin 4) : State :=
  if (s.head h).lock then s.headDown h .lock false else s

/-- Whether a section frame has all its bytes, or a point count that does not say where it ends (R44, R45, 11.2). That a
frame with such a count has its end at the count's last byte is the model's choice (DESIGN CHOICE, log 44). -/
def sectionWhole (bs : List Byte) : Bool :=
  decide (7 ≤ bs.length ∧ (960 < natAt bs 5 2 ∨ 11 + 9 * natAt bs 5 2 ≤ bs.length))

/-- What a head receiver finds takes effect (R44, R45, R48). -/
def State.headFinds (h : Fin 4) (s : State) (e : LinkEvent) : State :=
  match e with
  | .symbolError => s.headDown h .symbol true
  | .frame bs => s.sectionFrame h bs

/-- A head receiver that holds lock reads a run of symbols (R44, R187). -/
def State.headHears (s : State) (h : Fin 4) (inFrame ended : Bool) (run : List Symbol) : State :=
  if (s.head h).lock then
    let r := hear sectionWhole (s.head h).rxRd inFrame ended run
    r.2.foldl (State.headFinds h) (s.putHead h { s.head h with rxRd := r.1 })
  else s

/-- SECTION_FRAME_RECEIVED (R44, R45): the run ends where the frame ends. -/
def State.sectionFrameEnds (s : State) (h : Fin 4) (run : List Symbol) : State := s.headHears h false true run

/-- HEAD_SYMBOL_ERROR (R44, R48, R187): a symbol error inside a frame ends it as faulty; one between frames is ignored. -/
def State.headSymbolError (s : State) (h : Fin 4) (inFrame : Bool) (run : List Symbol) (sym : Symbol) : State :=
  s.headHears h inFrame false (run ++ [sym])

/-- HEAD_LOCK_GAIN (R44): the receiver of an enabled head holds lock again, at the stream's running disparity (log 37). -/
def State.headLockGain (s : State) (h : Fin 4) : State :=
  if (s.head h).enabled then
    s.putHead h { s.head h with lock := true, rxRd := Config.disparityAtLock h.val s.lt.time }
  else s

/-- ASSEMBLY_TIMEOUT_EXPIRY of the slot of sequence number `n` (R58): a WAITING slot becomes COMPLETE. -/
def State.expireSlot (s : State) (n : Seq) : State :=
  let pend := s.sa.pend.map fun p => if p.seq == n && p.contrib.isNone then s.complete p else p
  (s.setSa { s.sa with pend := pend }).cascade

/-! ### Head records (R54) -/

/-- The status record of a head (R54). -/
def Head.record (x : Head) : HeadRecord :=
  { enabled := x.enabled, status := x.status, miss := x.miss, recov := x.recov, fault := x.fault, ox := x.ox,
    oy := x.oy, scale := x.scale }

/-- The head items of a reply (R54). -/
def State.headItems (s : State) : HeadItems :=
  { timeout := s.hl.timeout, lostM := s.hl.lostM, recR := s.hl.recR,
    heads := perHead fun h => (s.head h).record }

end Sys2Proof.Machine
end

