-- ==== Sys2Proof/Machine/Length.lean ====
section
/-! DEFINITION. The Length Tracker (chapter 2): wheel counts, the live coordinate, the trigger grid and the coordinate
history. -/

namespace Sys2Proof.Machine

/-! ### Decoding the quadrature pair (R26) -/

/-- What a decoded phase change counts (R26). -/
inductive WheelStep where
  | noCount
  | forward
  | reverse
  deriving DecidableEq, Repr

/-- Whether (a, b) follows (a0, b0) in the sequence (0, 0), (1, 0), (1, 1), (0, 1), (0, 0) (R26). -/
def followsA (a0 b0 a b : Bool) : Bool :=
  match a0, b0 with
  | false, false => a && !b
  | true, false => a && b
  | true, true => !a && b
  | false, true => !a && !b

/-- The count of a phase change (R26): one phase changed gives one count; both changed gives none. -/
def wheelStep (d : Direction) (a0 b0 a b : Bool) : WheelStep :=
  if (a0 != a) == (b0 != b) then .noCount
  else if followsA a0 b0 a b == (d == .phaseALeads) then .forward
  else .reverse

/-! ### The trigger grid (R37 to R41) -/

/-- The next grid point above a coordinate: the first whole multiple of the pitch above it, and at the upper end
4,294,967,295, or none at 4,294,967,295 itself (R37, R38). -/
def gridAbove (pitch c : Nat) : Option Nat :=
  let g := (c / pitch + 1) * pitch
  if g ≤ maxCoord then some g else if c < maxCoord then some maxCoord else none

/-- A trigger frame is sent on the link of a head (R40, R187). -/
def Head.sendTrigger (x : Head) (h : Fin 4) (f : TriggerFrame) : Head :=
  { x with trigOut := some f, enc := x.enc.send h.val f.wire }

/-- Issues a trigger at grid point `g` (R40): a pending slot, the spacing timer, a trigger frame to every head that is not
DISABLED; a slot that waits for no head is COMPLETE as soon as it is taken (R57). -/
def State.issueTrigger (s : State) (g : Nat) : State :=
  let slot : PendSlot :=
    { seq := s.sa.seq, coord := g, frames := perHead fun _ => none, passed := 0,
      expiry := s.lt.time + s.hl.timeout * 1000, contrib := none }
  let frame : TriggerFrame := { seq := s.sa.seq, coord := g }
  let s := s.setSa { s.sa with
    pend := s.sa.pend ++ [s.testSlot slot], seq := s.sa.seq + 1, issued := min (s.sa.issued + 1) 4 }
  let s := s.setLt { s.lt with spacingExpiry := s.lt.spacing.map (s.lt.time + ·) }
  s.setHl { s.hl with
    heads := perHead fun h =>
      if (s.head h).enabled then (s.head h).sendTrigger h frame else s.head h }

/-- The conditions under which a reached grid point is issued (R39). -/
def State.mayTrigger (s : State) : Bool :=
  (s.cc.engine == .running || s.cc.engine == .halting) && !s.lt.limit && s.lt.live != maxCoord &&
  s.lt.spacingExpiry.isNone && decide (s.sa.pend.length < 4)

/-- The grid's decision at a change of the live coordinate to `c` (R38): below the next grid point none; else the highest
multiple of the pitch at or below `c` is offered for a trigger, and the next grid point is set above `c`. -/
def State.gridDecide (s : State) (c : Nat) : State :=
  match s.lt.pitch, s.lt.nextGrid with
  | some pitch, some g =>
    if c < g then s
    else
      let s := if s.mayTrigger then s.issueTrigger (c / pitch * pitch) else s
      s.setLt { s.lt with nextGrid := gridAbove pitch c }
  | _, _ => s

/-! ### Counts (R27 to R30) -/

/-- The greatest value of the 48-bit accumulator (R28). -/
abbrev maxAcc : Nat := 281474976710655

/-- The live coordinate has changed (R29, R30): the limit at 4,294,967,295; then the trigger grid decides; then the Piece
Tracker is presented the new live coordinate; then a slot that completed as it was taken retires. -/
def State.liveChanged (s : State) : State :=
  let s := if s.lt.live = maxCoord then (s.setLt { s.lt with limit := true }).raise .coordLimit else s
  let s := s.gridDecide s.lt.live
  let s := s.present s.lt.live
  s.cascade

/-- A forward count (R27, R28, R29): it pays debt; or is held in the limit condition; or adds the scale. -/
def State.forwardCount (s : State) : State :=
  if 0 < s.lt.debt then s.setLt { s.lt with debt := s.lt.debt - 1 }
  else if s.lt.limit then s
  else
    let before := s.lt.live
    let s := s.setLt { s.lt with acc := min (s.lt.acc + s.lt.geom.scale) maxAcc }
    if s.lt.live = before then s else s.liveChanged

/-- A reverse count (R27): one more debt, up to 65,535. -/
def State.reverseCount (s : State) : State := s.setLt { s.lt with debt := min (s.lt.debt + 1) 65535 }

/-- WHEEL_COUNT (R26): the pair is decoded against the previous pair, which it replaces. -/
def State.wheel (s : State) (a b : Bool) : State :=
  let step := wheelStep s.lt.geom.dir s.lt.phA s.lt.phB a b
  let s := s.setLt { s.lt with phA := a, phB := b }
  match step with
  | .noCount => s
  | .forward => s.forwardCount
  | .reverse => s.reverseCount

/-! ### The coordinate history (R31, R33) -/

/-- A sample tick (R31): the live coordinate becomes sample 0, and the sample at index 63 is discarded. -/
def State.takeSample (s : State) (at_ : Nat) : State :=
  s.setLt { s.lt with lastTick := at_, history := s.lt.live :: s.lt.history.take 63 }

/-- The index that a lookup asks for (R33): `a` is the latest tick less the event time; 0 or less asks for sample 0, else
a divided by 1,000, rounded up. -/
def sampleIndex (a : Int) : Nat := if a ≤ 0 then 0 else (a.toNat + 999) / 1000

/-- The lookup of an event (R33): the sample, and whether it is ESTIMATED. -/
def LengthTracker.lookup (lt : LengthTracker) (arrival age : Nat) : Nat × Bool :=
  let i := sampleIndex ((lt.lastTick : Int) - ((arrival : Int) - (age : Int)))
  if i ≤ 63 then (lt.history.getD i 0, false) else (lt.history.getD 63 0, true)

/-- The Length Tracker's part of a commit and of a soft reset (R27, R28, R29, R32, R37): the accumulator, the debt and the
history zeroed, the limit condition ended, the grid without pitch and spacing at grid point 0, the timer stopped. -/
def LengthTracker.zeroed (lt : LengthTracker) : LengthTracker :=
  { lt with
    acc := 0, debt := 0, limit := false, history := List.replicate 64 0, pitch := none, spacing := none,
    nextGrid := some 0, spacingExpiry := none }

/-- The grid's settings at the completion of compilation (R37). -/
def LengthTracker.takeGrid (lt : LengthTracker) (p : Params) : LengthTracker :=
  { lt with pitch := some p.pitch, spacing := some p.spacing, nextGrid := gridAbove p.pitch lt.live }

end Sys2Proof.Machine
end

