-- ==== Sys2Proof/Machine/Press.lean ====
section
/-! DEFINITION. The Press Tracker (chapter 5): press notices, back-dating, marks and their delivery. -/

namespace Sys2Proof.Machine

/-! ### Delivery (R93 to R98) -/

/-- The result of a notice whose mark was delivered (R95, R102). -/
def Disposition.result : Disposition → ResultCode
  | .noMark | .queued | .appliedLate => .ok
  | .dropped | .duplicate => .noEffect
  | .lost => .queueFull

/-- The queue after a mark is inserted (R96): after the last entry whose start is at or below its own. -/
def insertMark (m : Mark) : List Mark → List Mark
  | [] => [m]
  | q :: qs => if q.start ≤ m.start then q :: insertMark m qs else m :: q :: qs

/-- Whether a mark is a CUT whose start a queued CUT has (R93). -/
def duplicateCut (m : Mark) (queue : List Mark) : Bool :=
  m.kind == .cut && queue.any fun q => q.kind == .cut && q.start == m.start

/-- A late mark handed to the Piece Tracker (R97, R109, R119): a CUT at or below the open piece's start is dropped. -/
def State.handLate (s : State) (m : Mark) : State × Disposition :=
  match m.kind with
  | .cut =>
    match s.pt.piece with
    | some p => if p.start < m.start then (s.lateCut m.start m.est, .appliedLate) else (s, .dropped)
    | none => (s, .dropped)
  | _ => (s.lateZone m, .appliedLate)

/-- The delivery of a mark (R95): late, duplicate, queue full, or inserted. -/
def State.deliverMark (s : State) (m : Mark) : State × Disposition :=
  if m.start ≤ s.pt.settled then s.handLate m
  else if duplicateCut m s.pk.queue then (s, .duplicate)
  else if 16 ≤ s.pk.queue.length then (s.raise .markOverflow, .lost)
  else (s.setPk { s.pk with queue := insertMark m s.pk.queue }, .queued)

/-! ### Marks (R86, R88, R90, R92, R94) -/

/-- The STOP mark of a stop at die coordinate `p` (R88). -/
def stopMark (par : Params) (p : Nat) (est : Bool) : Mark :=
  { kind := .stop, start := p - par.stopHalf, stop := clampCoord (p + par.stopHalf), billet := none, est := est }

/-- The WELD mark of a stop record for a new billet (R90). -/
def weldMark (par : Params) (r : StopRec) (billet : Nat) : Mark :=
  { kind := .weld, start := clampCoord (r.coord + par.weldLead),
    stop := clampCoord (r.coord + par.weldLead + par.weldLen), billet := some billet, est := r.est }

/-- The CUT mark at saw coordinate `x` (R92). -/
def cutMark (x : Nat) (est : Bool) : Mark := { kind := .cut, start := x, stop := x, billet := none, est := est }

/-! ### The reply's items (R102) -/

/-- The items of a notice taken in IDLE. -/
def idleNotice : Items :=
  .notice { looked := none, est := false, formed := none, disposition := .noMark, mark := none }

/-- The items of a notice that was looked up and built no mark. -/
def noticeItems (look : Nat × Bool) (formed : Nat) (d : Disposition) (m : Option Mark) : Items :=
  .notice { looked := some look.1, est := look.2, formed := some formed, disposition := d, mark := m }

/-- A notice whose mark is delivered (R95, R102). -/
def State.answerMark (s : State) (look : Nat × Bool) (formed : Nat) (m : Mark) : Answer :=
  let r := s.deliverMark m
  r.1.taken r.2.result (noticeItems look formed r.2 (some m))

/-! ### The notices -/

/-- The die coordinate of a looked-up coordinate (R86). -/
def State.dieCoord (s : State) (c : Nat) : Nat := clampCoord (c + s.lt.geom.dDie)

/-- The saw coordinate of a looked-up coordinate (R86). -/
def State.sawCoord (s : State) (c : Nat) : Nat := clampCoord (c + s.lt.geom.dSaw)

/-- NOTE_RAM_STOP (R85, R87, R88). -/
def State.ramStop (s : State) (arrival age : Nat) : Answer :=
  let look := s.lt.lookup arrival age
  let p := s.dieCoord look.1
  match s.cc.engine with
  | .switching => s.refuse .busy 0
  | .idle =>
    if s.pk.state = .stopped then s.taken .noEffect idleNotice
    else (s.setPk { s.pk with state := .stopped }).taken .ok idleNotice
  | .ready | .running | .halting =>
    if s.pk.state = .stopped then s.taken .noEffect (noticeItems look p .noMark none)
    else
      State.answerMark (s.setPk { s.pk with state := .stopped, stopRec := some { coord := p, est := look.2 } })
        look p (stopMark s.params p look.2)

/-- The Press Tracker after an accepted ram start of a billet (R89, R91). -/
def PressTracker.started (k : PressTracker) (billet : Nat) : PressTracker :=
  { k with
    state := .pushing, billet := billet, gaugeBillet := if k.stopRec.isNone then billet else k.gaugeBillet }

/-- NOTE_RAM_START (R85, R89, R90, R91). A WRONG_STATE carries the status summary alone. -/
def State.ramStart (s : State) (arrival age billet : Nat) : Answer :=
  let look := s.lt.lookup arrival age
  let p := s.dieCoord look.1
  match s.cc.engine with
  | .switching => s.refuse .busy 0
  | .idle =>
    if s.pk.state = .pushing then s.refuse .wrongState 0
    else (s.setPk { s.pk with state := .pushing, billet := billet }).taken .ok idleNotice
  | .ready | .running | .halting =>
    if s.pk.state = .pushing then s.refuse .wrongState 0
    else
      let s' := s.setPk (s.pk.started billet)
      match s.pk.state, s.pk.stopRec with
      | .stopped, some r =>
        if billet = s.pk.billet then s'.taken .ok (noticeItems look p .noMark none)
        else s'.answerMark look p (weldMark s.params r billet)
      | _, _ => s'.taken .ok (noticeItems look p .noMark none)

/-- NOTE_CUT (R85, R92). -/
def State.cutNotice (s : State) (arrival age : Nat) : Answer :=
  let look := s.lt.lookup arrival age
  let x := s.sawCoord look.1
  match s.cc.engine with
  | .switching => s.refuse .busy 0
  | .idle => s.taken .noEffect idleNotice
  | .ready | .running | .halting => s.answerMark look x (cutMark x look.2)

end Sys2Proof.Machine
end

