-- ==== Sys2Proof/Machine/Reports.lean ====
section
/-! DEFINITION. The Report Queue's commands and the trace setting (chapter 9). -/

namespace Sys2Proof.Machine

/-- The number of gauge entries per bin record of a report (R186). -/
def Report.gaugeCount (r : Report) : Nat :=
  match r.bins with
  | b :: _ => b.gauges.length
  | [] => 0

/-- The number of bins of a report with a verdict (R122). -/
def Report.countVerdict (r : Report) (v : Verdict) : Nat := r.bins.countP fun b => b.verdict == some v

/-- The piece report header (R122, R162, R186). -/
def Report.header (r : Report) : ReportHeader :=
  { number := r.number, slot := r.slot, reason := r.reason, die := r.die, flags := r.flags,
    gauges := r.gaugeCount, bins := r.bins.length, start := r.start, stop := r.stop,
    firstBillet := (r.bins.head?.map Bin.billet).getD 0, lastBillet := (r.bins.getLast?.map Bin.billet).getD 0,
    accept := r.countVerdict .accept, acceptWarn := r.countVerdict .acceptWarn,
    ungauged := r.countVerdict .ungauged, rejectDim := r.countVerdict .rejectDim,
    rejectZone := r.countVerdict .rejectZone }

/-- The fetch batch of a report (R162, R186): the lesser of 16 and 976 divided by 22 + 6 × g. -/
def Report.batch (r : Report) : Nat := min 16 (976 / (22 + 6 * r.gaugeCount))

/-- The bins that a fetch from a bin index returns (R162). -/
def Report.fetched (r : Report) (first : Nat) : List Bin := (r.bins.drop first).take r.batch

/-- A fetch of the oldest report from a bin index (R160 to R162): the pointer stands behind the bins returned. -/
def State.fetchFrom (s : State) (r : Report) (first : Nat) (code : ResultCode) : Answer :=
  let bins := r.fetched first
  (s.setRq { s.rq with fetchPtr := first + bins.length }).taken code <| .fetch
    { header := r.header, first := first, returned := bins.length, lastDropped := s.rq.lastDropped, bins := bins }

/-- FETCH_FIRST (R160). -/
def State.fetchFirst (s : State) : Answer :=
  match s.rq.reports with
  | [] => s.refuse .empty 0
  | r :: _ => s.fetchFrom r 0 .ok

/-- FETCH_NEXT (R161). At the end of the report it returns no bins and leaves the pointer. -/
def State.fetchNext (s : State) : Answer :=
  match s.rq.reports with
  | [] => s.refuse .empty 0
  | r :: _ =>
    if s.rq.fetchPtr = r.bins.length then s.fetchFrom r s.rq.fetchPtr .noEffect
    else s.fetchFrom r s.rq.fetchPtr .ok

/-- SET_FETCH_POINTER (R163). Its reply carries the items while there is a report to name (log 13). -/
def State.setFetchPointer (s : State) (index : Nat) : Answer :=
  match s.rq.reports with
  | [] => s.refuse .empty 0
  | r :: _ =>
    if r.bins.length < index then
      ⟨s, .badValue, 1, .fetchPointer r.number r.bins.length s.rq.fetchPtr⟩
    else
      (s.setRq { s.rq with fetchPtr := index }).taken .ok (.fetchPointer r.number r.bins.length index)

/-- The piece number of the oldest report, if there is one. -/
def ReportQueue.oldest (q : ReportQueue) : Option Nat := q.reports.head?.map Report.number

/-- RELEASE (R164). Every reply carries the items (R164: absent for NO_EFFECT and BAD_VALUE). -/
def State.release (s : State) (piece : Nat) : Answer :=
  match s.rq.reports with
  | [] => s.taken .noEffect (.released none 0 none s.rq.lastDropped)
  | r :: rest =>
    if piece ≠ 0 ∧ piece ≠ r.number then
      ⟨s, .badValue, 1, .released none 0 (some r.number) s.rq.lastDropped⟩
    else
      let s := s.setRq { s.rq with reports := rest, fetchPtr := 0 }
      let s := s.setPt { s.pt with free := s.pt.free + r.bins.length }
      s.taken .ok (.released (some r.number) r.bins.length s.rq.oldest s.rq.lastDropped)

/-- SET_TRACE (R166). -/
def State.setTrace (s : State) (n : Nat) : Answer :=
  let lp := { s.lp with traceN := n, decim := 0 }
  (s.setLp (if n = 0 then { lp with traceBuf := none, replaced := 0 } else lp)).taken .ok (.traceN n)

end Sys2Proof.Machine
end

