-- ==== Sys2Proof/Machine/Operands.lean ====
section
/-! DEFINITION. The operands of the command frames: the records that payloads carry, read from their layout (R185), and
their range checks (R4, R6, R7, R34); and the records' bytes, for the digest (R19). -/

namespace Sys2Proof.Machine

/-- The number of the first check that fails, in the order given. -/
def firstFailing : List (Nat × Bool) → Option Nat
  | [] => none
  | (n, ok) :: rest => if ok then firstFailing rest else some n

/-- Whether a natural number lies in [lo, hi]. -/
def natIn (lo hi v : Nat) : Bool := decide (lo ≤ v ∧ v ≤ hi)

/-- Whether an integer lies in [lo, hi]. -/
def intIn (lo hi v : Int) : Bool := decide (lo ≤ v ∧ v ≤ hi)

/-- A slot number, if it is 0 to 7 (R8). -/
def slotOf (b : Byte) : Option (Fin 8) := if h : b.toNat < 8 then some ⟨b.toNat, h⟩ else none

/-- A head number or quadrant from its byte, where the byte is 0 to 3. -/
def fourOf (b : Byte) : Fin 4 := ⟨b.toNat % 4, Nat.mod_lt _ (by decide)⟩

/-! ### The die parameter record (R4, R185: 32 bytes) -/

/-- The die parameter record of its 32 bytes. -/
def paramsOf (r : List Byte) : Params :=
  { echo := natAt r 0 2, pitch := natAt r 2 2, spacing := natAt r 4 2, binLen := natAt r 6 2,
    frontCrop := natAt r 8 2, backCrop := natAt r 10 2, stopHalf := natAt r 12 2, weldLead := natAt r 14 4,
    weldLen := natAt r 18 4, expansion := natAt r 22 2, tRef := natAt r 24 2, tDef := natAt r 26 2,
    minQuality := natAt r 28 1, policy := BitVec.ofNat 4 (natAt r 29 1), ungaugedLimit := natAt r 30 1,
    burstLimit := natAt r 31 1 }

/-- The number of the lowest-numbered field out of range (R4, R11), none when the record is in range. -/
def paramsFault (r : List Byte) : Option Nat :=
  firstFailing
    [(2, natIn 10 1000 (natAt r 2 2)), (3, natIn 250 10000 (natAt r 4 2)), (4, natIn 100 10000 (natAt r 6 2)),
     (5, natIn 0 50000 (natAt r 8 2)), (6, natIn 0 50000 (natAt r 10 2)), (7, natIn 0 5000 (natAt r 12 2)),
     (8, natIn 0 100000 (natAt r 14 4)), (9, natIn 0 200000 (natAt r 18 4)), (10, natIn 0 5000 (natAt r 22 2)),
     (11, natIn 0 400 (natAt r 24 2)), (12, natIn 0 7000 (natAt r 26 2)), (13, natIn 1 255 (natAt r 28 1)),
     (14, natIn 0 15 (natAt r 29 1)), (15, natIn 0 100 (natAt r 30 1)), (16, natIn 0 255 (natAt r 31 1))]

/-- The 32 bytes of a die parameter record (R185), for the digest (R19). -/
def Params.bytes (p : Params) : List Byte :=
  leBytes 2 p.echo ++ leBytes 2 p.pitch ++ leBytes 2 p.spacing ++ leBytes 2 p.binLen ++ leBytes 2 p.frontCrop ++
  leBytes 2 p.backCrop ++ leBytes 2 p.stopHalf ++ leBytes 4 p.weldLead ++ leBytes 4 p.weldLen ++
  leBytes 2 p.expansion ++ leBytes 2 p.tRef ++ leBytes 2 p.tDef ++ leBytes 1 p.minQuality ++
  leBytes 1 p.policy.toNat ++ leBytes 1 p.ungaugedLimit ++ leBytes 1 p.burstLimit

/-! ### The probe record (R6, R185: 25 bytes) -/

/-- The probe kind of its code. -/
def probeKindOf (b : Byte) : ProbeKind := if b = 0 then .edge else .surface

/-- The axis of its code. -/
def axisOf (b : Byte) : Axis := if b = 0 then .x else .y

/-- The probe record of its 25 bytes. -/
def probeOf (r : List Byte) : ProbeRec :=
  { kind := probeKindOf (byteAt r 0), head := fourOf (byteAt r 1), uLo := intAt r 2 4, uHi := intAt r 6 4,
    wLo := natAt r 10 4, wHi := natAt r 14 4, dir := byteAt r 18, step := natAt r 19 4, minPts := natAt r 23 1,
    axis := axisOf (byteAt r 24) }

/-- The range checks of a probe record (R6). The search direction and the step threshold are checked for EDGE only,
the minimum points for SURFACE only. -/
def probeOk (r : List Byte) : Bool :=
  natIn 0 1 (natAt r 0 1) && natIn 0 3 (natAt r 1 1) &&
  intIn (-200000) 200000 (intAt r 2 4) && intIn (-200000) 200000 (intAt r 6 4) &&
  decide (intAt r 2 4 < intAt r 6 4) &&
  natIn 0 500000 (natAt r 10 4) && natIn 0 500000 (natAt r 14 4) && decide (natAt r 10 4 < natAt r 14 4) &&
  (match probeKindOf (byteAt r 0) with
   | .edge => natIn 0 1 (natAt r 18 1) && natIn 1 100000 (natAt r 19 4)
   | .surface => natIn 1 64 (natAt r 23 1)) &&
  natIn 0 1 (natAt r 24 1)

/-- The code of a probe kind (R185). -/
def ProbeKind.code : ProbeKind → Nat
  | .edge => 0
  | .surface => 1

/-- The code of an axis (R185). -/
def Axis.code : Axis → Nat
  | .x => 0
  | .y => 1

/-- The 25 bytes of a probe record as they were sent (R19, R185). -/
def ProbeRec.bytes (p : ProbeRec) : List Byte :=
  leBytes 1 p.kind.code ++ leBytes 1 p.head.val ++ leIntBytes 4 p.uLo ++ leIntBytes 4 p.uHi ++ leBytes 4 p.wLo ++
  leBytes 4 p.wHi ++ [p.dir] ++ leBytes 4 p.step ++ leBytes 1 p.minPts ++ leBytes 1 p.axis.code

/-! ### The gauge record (R7, R185: 21 bytes) -/

/-- The gauge kind of its code. -/
def gaugeKindOf (b : Byte) : GaugeKind :=
  match b.toNat with
  | 0 => .spanX
  | 1 => .spanY
  | 2 => .posX
  | _ => .posY

/-- Whether a gauge kind is a span (R74). -/
def GaugeKind.isSpan : GaugeKind → Bool
  | .spanX | .spanY => true
  | .posX | .posY => false

/-- The axis of a gauge kind (R17). -/
def GaugeKind.axis : GaugeKind → Axis
  | .spanX | .posX => .x
  | .spanY | .posY => .y

/-- Probe b of its byte: 255 is absent (R184). -/
def probeRefOf (b : Byte) : Option Nat := if b = 255 then none else some b.toNat

/-- The gauge record of its 21 bytes. -/
def gaugeOf (r : List Byte) : GaugeRec :=
  { enabledByte := byteAt r 0, kind := gaugeKindOf (byteAt r 1), a := natAt r 2 1, b := probeRefOf (byteAt r 3),
    datum := intAt r 4 4, nominal := intAt r 8 4, tolLo := intAt r 12 4, tolHi := intAt r 16 4,
    warn := natAt r 20 1 }

/-- The range checks of a gauge record (R7). The datum is checked for POS kinds only. -/
def gaugeOk (r : List Byte) : Bool :=
  natIn 0 3 (natAt r 1 1) && natIn 0 63 (natAt r 2 1) && (natIn 0 63 (natAt r 3 1) || natAt r 3 1 == 255) &&
  ((gaugeKindOf (byteAt r 1)).isSpan || intIn (-999999) 999999 (intAt r 4 4)) &&
  intIn (if (gaugeKindOf (byteAt r 1)).isSpan then 1 else -999999) 999999 (intAt r 8 4) &&
  intIn (-99999) 0 (intAt r 12 4) && intIn 0 99999 (intAt r 16 4) && natIn 50 100 (natAt r 20 1)

/-- The code of a gauge kind (R185). -/
def GaugeKind.code : GaugeKind → Nat
  | .spanX => 0
  | .spanY => 1
  | .posX => 2
  | .posY => 3

/-- The 21 bytes of a gauge record as they were sent (R19, R185). -/
def GaugeRec.bytes (g : GaugeRec) : List Byte :=
  [g.enabledByte] ++ leBytes 1 g.kind.code ++ leBytes 1 g.a ++ leBytes 1 (g.b.getD 255) ++ leIntBytes 4 g.datum ++
  leIntBytes 4 g.nominal ++ leIntBytes 4 g.tolLo ++ leIntBytes 4 g.tolHi ++ leBytes 1 g.warn

/-! ### The records of a table write (R10, R12, R13) -/

/-- The first `n` records of `size` bytes each. -/
def recordsOf (size : Nat) : Nat → List Byte → List (List Byte)
  | 0, _ => []
  | n + 1, bs => bs.take size :: recordsOf size n (bs.drop size)

/-- The index, from `k` on, of the first record that a check refuses (R14). -/
def firstInvalid (ok : List Byte → Bool) : Nat → List (List Byte) → Option Nat
  | _, [] => none
  | k, r :: rs => if ok r then firstInvalid ok (k + 1) rs else some k

/-- A table after `new` records are written at the indices from `start` on (R10): the records above them keep. -/
def overwrite {α : Type} (table : List α) (start : Nat) (new : List α) : List α :=
  table.take start ++ new ++ table.drop (start + new.length)

/-! ### The line geometry (R34, R185: 17 bytes) -/

/-- The direction of its code (R185). -/
def directionOf (b : Byte) : Direction := if b = 0 then .phaseALeads else .phaseBLeads

/-- The line geometry of a SET_GEOMETRY payload. -/
def geometryOf (r : List Byte) : Geometry :=
  { dDie := natAt r 0 4, dSaw := natAt r 4 4, scale := natAt r 8 4, dir := directionOf (byteAt r 12),
    quad := ⟨fourOf (byteAt r 13), fourOf (byteAt r 14), fourOf (byteAt r 15), fourOf (byteAt r 16)⟩ }

/-- The number of the lowest-numbered field out of range (R34, R35). D_saw is tested against the D_die of the same
command. -/
def geometryFault (r : List Byte) : Option Nat :=
  firstFailing
    [(1, natIn 10000 600000 (natAt r 0 4)), (2, decide (natAt r 4 4 < natAt r 0 4)),
     (3, natIn 1 16777215 (natAt r 8 4)), (4, natIn 0 1 (natAt r 12 1)), (5, natIn 0 3 (natAt r 13 1)),
     (6, natIn 0 3 (natAt r 14 1)), (7, natIn 0 3 (natAt r 15 1)), (8, natIn 0 3 (natAt r 16 1))]

end Sys2Proof.Machine
end

