-- ==== Sys2Proof/Machine/Gauge.lean ====
section
/-! DEFINITION. The Gauge Engine (chapter 4): roundings, probes, scale and pose, gauge values, thermal correction,
classification and the section result. -/

namespace Sys2Proof.Machine

/-! ### Rounding (R63) -/

/-- The quotient n / m, m above 0, rounded half away from zero (R63). -/
def roundDiv (n : Int) (m : Nat) : Int :=
  let q := n.natAbs / m + if m ≤ 2 * (n.natAbs % m) then 1 else 0
  if n < 0 then -(q : Int) else (q : Int)

/-! ### Probes (R66 to R70) -/

/-- Whether a point is valid for a probe (R66). -/
def pointValid (minQuality : Nat) (r : ProbeRec) (p : Point) : Bool :=
  decide (minQuality ≤ p.quality ∧ r.uLo ≤ p.u ∧ p.u ≤ r.uHi ∧ r.wLo ≤ p.w ∧ p.w ≤ r.wHi)

/-- The value of a SURFACE probe on its valid points (R67). -/
def surfaceValue (r : ProbeRec) (valid : List Point) : Option Int :=
  if valid = [] ∨ valid.length < r.minPts then none
  else some (roundDiv ((valid.map (fun p => p.w)).sum : Nat) valid.length)

/-- The first pair of adjacent points of a walk whose ranges differ by at least the threshold (R68). -/
def edgePair (threshold : Nat) : List Point → Option (Point × Point)
  | a :: b :: rest =>
    if threshold ≤ ((a.w : Int) - (b.w : Int)).natAbs then some (a, b) else edgePair threshold (b :: rest)
  | _ => none

/-- The value of an EDGE probe on its valid points, which stand in ascending u (R68, R69): the midpoint of the edge pair,
rounded by floor. Search direction 1 is DESCENDING (R185). -/
def edgeValue (r : ProbeRec) (valid : List Point) : Option Int :=
  (edgePair r.step (if r.dir = 1 then valid.reverse else valid)).map fun (a, b) => (a.u + b.u) / 2

/-- The value of a compiled probe on a section, none when it is invalid (R66 to R70). -/
def probeValue (c : Compiled) (sec : Handed) (r : ProbeRec) : Option Int :=
  if HeadSet.has sec.contrib r.head then
    match sec.heads.get r.head with
    | none => none
    | some d =>
      let valid := d.points.filter (pointValid c.minQuality r)
      match r.kind with
      | .edge => edgeValue r valid
      | .surface => surfaceValue r valid
  else none

/-! ### Scale and pose (R71, R72) -/

/-- A probe value corrected by a head's scale in ppm (R71). -/
def scaled (v s : Int) : Int := v + roundDiv (v * s) 1000000

/-- The section coordinate that the pose gives a corrected value (R72), on the axis the probe declares (R73). -/
def posed (q : Fin 4) (kind : ProbeKind) (ox oy v : Int) : Int :=
  match q, kind with
  | 0, .edge => ox + v
  | 1, .edge => oy + v
  | 2, .edge => ox - v
  | 3, .edge => oy - v
  | 0, .surface => oy - v
  | 1, .surface => ox + v
  | 2, .surface => oy + v
  | 3, .surface => ox - v

/-- The section coordinate of a compiled probe, none when it is invalid (R65 steps 2 and 3). -/
def probeCoord (c : Compiled) (sec : Handed) (p : CompiledProbe) : Option Int :=
  match probeValue c sec p.probe, sec.heads.get p.probe.head with
  | some v, some d => some (posed p.quad p.probe.kind d.ox d.oy (scaled v d.scale))
  | _, _ => none

/-- The section coordinate of the compiled probe of an index. -/
def coordOfProbe (c : Compiled) (sec : Handed) (i : Nat) : Option Int := (c.probes[i]?).bind (probeCoord c sec)

/-! ### Gauge values, thermal correction, classification (R74 to R81) -/

/-- The hot value of a gauge, none when a probe it uses is invalid (R74, R75). -/
def hotValue (c : Compiled) (sec : Handed) (g : GaugeRec) : Option Int :=
  if g.kind.isSpan then
    match coordOfProbe c sec g.a, g.b.bind (coordOfProbe c sec) with
    | some a, some b => some ((a - b).natAbs : Int)
    | _, _ => none
  else (coordOfProbe c sec g.a).map (· - g.datum)

/-- The expansion in parts in 10⁹ (R76). -/
def expansionOf (c : Compiled) (temp : Nat) : Int := (c.expansion : Int) * ((temp : Int) - (c.tRef : Int))

/-- The unclamped cold value (R77). -/
def coldValue (e hot : Int) : Int := roundDiv (hot * 1000000000) (1000000000 + e).toNat

/-- An integer clamped to [lo, hi]. -/
def clampInt (lo hi v : Int) : Int := max lo (min hi v)

/-- The lower warn threshold (R80): truncated. -/
def warnLow (g : GaugeRec) : Int := (g.tolLo * (g.warn : Int)).tdiv 100

/-- The upper warn threshold (R80): truncated. -/
def warnHigh (g : GaugeRec) : Int := (g.tolHi * (g.warn : Int)).tdiv 100

/-- The class of a deviation (R81). -/
def classify (g : GaugeRec) (d : Int) : GaugeClass :=
  if d < g.tolLo then .outLo
  else if g.tolHi < d then .outHi
  else if d < warnLow g then .warnLo
  else if warnHigh g < d then .warnHi
  else .inTol

/-- The entry of an enabled gauge in the section result (R75 to R81). -/
def gaugeEntry (c : Compiled) (sec : Handed) (i : Nat) (g : GaugeRec) : GaugeEntry :=
  match hotValue c sec g with
  | none => { idx := i, cold := none, dev := none, cls := .notGauged, saturated := false }
  | some hot =>
    let raw := coldValue (expansionOf c sec.temp) hot
    let cold := clampInt (if g.kind.isSpan then 0 else -999999) 999999 raw
    let diff := cold - g.nominal
    let d := clampInt (-999999) 999999 diff
    { idx := i, cold := some cold, dev := some d, cls := classify g d, saturated := cold != raw || d != diff }

/-- The gauge entries from index `k` on: one per enabled gauge, in ascending order (R82). -/
def gaugeEntries (c : Compiled) (sec : Handed) : Nat → List GaugeRec → List GaugeEntry
  | _, [] => []
  | k, g :: gs =>
    if g.enabled then gaugeEntry c sec k g :: gaugeEntries c sec (k + 1) gs else gaugeEntries c sec (k + 1) gs

/-- The section result of a handed section (R65, R82). -/
def evaluate (c : Compiled) (sec : Handed) : SecResult :=
  { seq := sec.seq, coord := sec.coord, temp := sec.temp, held := sec.held, contrib := sec.contrib,
    gauges := gaugeEntries c sec 0 c.gauges }

/-- SECTION_EVALUATION (R65): the oldest handed section is evaluated and its result passed to the Piece Tracker; nothing
when none waits or no compiled copy is held (R64: no section reaches the Gauge Engine then). -/
def State.evaluateNext (s : State) : State :=
  match s.ge.handed, s.ge.compiled with
  | sec :: rest, some c =>
    let s := s.setGe { s.ge with handed := rest }
    s.setPt { s.pt with results := s.pt.results ++ [evaluate c sec] }
  | _, _ => s

/-! ### The compiled copy (R64) -/

/-- The compiled copy of a slot's recipe with the quadrants of the line geometry (R64). -/
def compile (d : DieSlot) (quad : PerHead (Fin 4)) : Compiled :=
  { minQuality := d.record.minQuality, expansion := d.record.expansion, tRef := d.record.tRef,
    probes := d.probes.map fun r => { probe := r, quad := quad.get r.head }, gauges := d.gauges }

end Sys2Proof.Machine
end

