-- ==== Sys2Proof/Machine/Slots.lean ====
section
/-! DEFINITION. The die slots and the die directory (chapter 1): the slot commands, MAP_DIE and UNMAP_DIE. -/

namespace Sys2Proof.Machine

/-- A slot command on the slot its first byte names; a number that is not 0 to 7 is refused (R8). -/
def State.onSlot (s : State) (payload : List Byte) (f : Fin 8 → Answer) : Answer :=
  match slotOf (byteAt payload 0) with
  | some i => f i
  | none => s.refuse .badValue 0

/-- OPEN_SLOT (R9). -/
def State.openSlot (s : State) (i : Fin 8) : Answer :=
  let d := s.dieSlot i
  if d.busy then s.refuse .busy 0
  else if d.state = .loading then s.taken .noEffect .summaryOnly
  else
    (s.putSlot i { d with
      state := .loading, gen := d.gen + 1, digest := none, probePtr := 0, gaugePtr := 0 }).taken .ok .summaryOnly

/-- WRITE_PARAMS with its 32-byte record (R11). -/
def State.writeParams (s : State) (i : Fin 8) (record : List Byte) : Answer :=
  let d := s.dieSlot i
  if d.busy then s.refuse .busy 0
  else if d.state ≠ .loading then s.refuse .wrongState 0
  else match paramsFault record with
    | some n => s.refuse .badValue n
    | none => (s.putSlot i { d with params := some (paramsOf record) }).taken .ok .summaryOnly

/-- The records of a table write: the bytes after the slot number and the count (R185), cut into records of `size` bytes. -/
def tableRecords (size : Nat) (payload : List Byte) : List (List Byte) :=
  recordsOf size ((recordCount (byteAt payload 1)).getD 0) (payload.drop 2)

/-- WRITE_PROBES_FIRST and WRITE_PROBES_NEXT at a start index (R10, R12, R14). -/
def State.writeProbes (s : State) (i : Fin 8) (start : Nat) (records : List (List Byte)) : Answer :=
  let d := s.dieSlot i
  if d.busy then s.refuse .busy 0
  else if d.state ≠ .loading then s.refuse .wrongState 0
  else if 64 < start + records.length then s.refuse .tableOverrun 0
  else match firstInvalid probeOk start records with
    | some k => s.refuse .badValue k
    | none =>
      let probes := overwrite d.probes start (records.map probeOf)
      let ptr := start + records.length
      (s.putSlot i { d with probes := probes, probePtr := ptr }).taken .ok (.tableWrite ptr probes.length)

/-- WRITE_GAUGES_FIRST and WRITE_GAUGES_NEXT at a start index (R10, R13, R14). -/
def State.writeGauges (s : State) (i : Fin 8) (start : Nat) (records : List (List Byte)) : Answer :=
  let d := s.dieSlot i
  if d.busy then s.refuse .busy 0
  else if d.state ≠ .loading then s.refuse .wrongState 0
  else if 32 < start + records.length then s.refuse .tableOverrun 0
  else match firstInvalid gaugeOk start records with
    | some k => s.refuse .badValue k
    | none =>
      let gauges := overwrite d.gauges start (records.map gaugeOf)
      let ptr := start + records.length
      (s.putSlot i { d with gauges := gauges, gaugePtr := ptr }).taken .ok (.tableWrite ptr gauges.length)

/-! ### Sealing (R15 to R19) -/

/-- The probes that a gauge references. -/
def GaugeRec.refs (g : GaugeRec) : List Nat := g.a :: g.b.toList

/-- Seal check 3 of a gauge: its probes are below the probes written count (R17). -/
def probesExist (d : DieSlot) (g : GaugeRec) : Bool := g.refs.all fun i => decide (i < d.probes.length)

/-- Seal check 4 of a gauge: its probes declare the axis of its kind (R17). -/
def axesMatch (d : DieSlot) (g : GaugeRec) : Bool :=
  g.refs.all fun i => (d.probes[i]?).all fun p => p.axis == g.kind.axis

/-- Seal check 5 of a gauge: probe b is present for a SPAN and absent for a POS (R17). -/
def probeBOk (g : GaugeRec) : Bool := g.b.isSome == g.kind.isSpan

/-- The axis that a probe's kind and the quadrant of its head give (R18, R73). -/
def axisGiven (q : Fin 4) (k : ProbeKind) : Axis :=
  match q, k with
  | 0, .edge | 2, .edge => .x
  | 1, .edge | 3, .edge => .y
  | 0, .surface | 2, .surface => .y
  | 1, .surface | 3, .surface => .x

/-- Seal check 6 of a probe: its declared axis is the one given (R18). -/
def probeAxisOk (quad : PerHead (Fin 4)) (p : ProbeRec) : Bool := p.axis == axisGiven (quad.get p.head) p.kind

/-- The index of the first element that a test refuses. -/
def firstBad {α : Type} (ok : α → Bool) (xs : List α) : Option Nat := xs.findIdx? fun x => !ok x

/-- The first seal check that fails, with its detail index (R15 to R18). -/
def sealFault (quad : PerHead (Fin 4)) (d : DieSlot) : Option (Nat × Nat) :=
  if d.params.isNone then some (1, 0)
  else if !d.gauges.any GaugeRec.enabled then some (2, 0)
  else
    ((firstBad (probesExist d) d.gauges).map (Prod.mk 3)).or <|
    ((firstBad (axesMatch d) d.gauges).map (Prod.mk 4)).or <|
    ((firstBad probeBOk d.gauges).map (Prod.mk 5)).or <|
    ((firstBad (probeAxisOk quad) d.probes).map (Prod.mk 6))

/-- The digest of a slot's recipe (R19). -/
def DieSlot.computeDigest (d : DieSlot) : BitVec 32 :=
  crc32 (d.record.bytes ++ d.probes.flatMap ProbeRec.bytes ++ d.gauges.flatMap GaugeRec.bytes)

/-- SEAL_SLOT (R15). The reply of a seal carries the digest (R19); that the reply of NO_EFFECT, for a slot that is SEALED
already, carries the status summary alone is the model's choice (DESIGN CHOICE, log 40). -/
def State.sealSlot (s : State) (i : Fin 8) : Answer :=
  let d := s.dieSlot i
  match d.state with
  | .empty => s.refuse .wrongState 0
  | .sealed => s.taken .noEffect .summaryOnly
  | .loading =>
    match sealFault s.lt.geom.quad d with
    | some (n, detail) => ⟨s, .sealCheck, detail, .checkFailed n detail⟩
    | none =>
      (s.putSlot i { d with state := .sealed, digest := some d.computeDigest }).taken .ok
        (.sealed d.computeDigest)

/-! ### Erasing and querying (R20, R21) -/

/-- A slot as ERASE_SLOT leaves it (R20): as after a hard reset, but for the generation, which increments. -/
def DieSlot.erased (d : DieSlot) : DieSlot := { DieSlot.fresh with gen := d.gen + 1 }

/-- ERASE_SLOT (R20). -/
def State.eraseSlot (s : State) (i : Fin 8) : Answer :=
  let d := s.dieSlot i
  if d.busy then s.refuse .busy 0
  else if d.state = .empty then s.taken .noEffect .summaryOnly
  else (s.putSlot i d.erased).taken .ok .summaryOnly

/-- The items of a QUERY_SLOT reply (R21). -/
def DieSlot.items (d : DieSlot) : SlotItems :=
  { state := d.state, gen := d.gen, busy := d.busy, link := d.link, paramsWritten := d.params.isSome,
    probesWritten := d.probes.length, probePtr := d.probePtr, gaugesWritten := d.gauges.length,
    gaugePtr := d.gaugePtr, digest := d.digest }

/-- QUERY_SLOT (R21). -/
def State.querySlot (s : State) (i : Fin 8) : Answer := s.taken .ok (.slot (s.dieSlot i).items)

/-! ### The die directory (R23 to R25) -/

/-- The directory after an accepted MAP_DIE (R24): the die's entry replaced, or a new one added. -/
def mapDirectory (dir : List DirEntry) (e : DirEntry) : List DirEntry :=
  if dir.any (fun x => x.die == e.die) then dir.map fun x => if x.die = e.die then e else x else dir ++ [e]

/-- MAP_DIE (R24). An enabled byte of 0 is no, any other yes (R184). -/
def State.mapDie (s : State) (die : Nat) (slot enabled : Byte) : Answer :=
  if die = 0 then s.refuse .badValue 1
  else match slotOf slot with
    | none => s.refuse .badValue 2
    | some i =>
      if s.cc.dir.any (fun x => x.die == die) ∨ s.cc.dir.length < 32 then
        let dir := mapDirectory s.cc.dir { die := die, slot := i, enabled := enabled != 0 }
        (s.setCc { s.cc with dir := dir }).taken .ok (.entries dir.length)
      else s.refuse .tableOverrun 0

/-- UNMAP_DIE (R25). -/
def State.unmapDie (s : State) (die : Nat) : Answer :=
  if die = 0 then s.refuse .badValue 1
  else if s.cc.dir.any (fun x => x.die == die) then
    let dir := s.cc.dir.filter fun x => x.die != die
    (s.setCc { s.cc with dir := dir }).taken .ok (.entries dir.length)
  else s.taken .noEffect (.entries s.cc.dir.length)

end Sys2Proof.Machine
end

