-- ==== Sys2Proof/Machine/Switch.lean ====
section
/-! DEFINITION. The engine states and die switching (chapter 7), the settings commands (R35, R51 to R53) and the two resets
(R143, R181, R182). -/

namespace Sys2Proof.Machine

/-! ### START and HALT (R130, R131) -/

/-- START (R130). -/
def State.startEngine (s : State) : Answer :=
  match s.cc.engine with
  | .idle => s.refuse .wrongState 0
  | .switching => s.refuse .busy 0
  | .ready | .halting => (s.setCc { s.cc with engine := .running, haltBin := none }).taken .ok .summaryOnly
  | .running => s.taken .noEffect .summaryOnly

/-- HALT (R131). -/
def State.haltEngine (s : State) : Answer :=
  match s.cc.engine with
  | .idle => s.refuse .wrongState 0
  | .switching => s.refuse .busy 0
  | .running =>
    let bin := s.pt.piece.map fun p => { piece := p.number, bin := p.cur.index : HaltBin }
    (s.setCc { s.cc with engine := .halting, haltBin := bin }).taken .ok .summaryOnly
  | .halting | .ready => s.taken .noEffect .summaryOnly

/-! ### The head check (R134) -/

/-- Whether a probe passes the head check (R134): its head is enabled and its axis is the one given. -/
def State.headCheck (s : State) (p : ProbeRec) : Bool :=
  (s.head p.head).enabled && probeAxisOk s.lt.geom.quad p

/-- Whether the press lets a switch commit (R133 check 2, R141 check 3). -/
def PressState.letsSwitch : PressState → Bool
  | .stopped | .unknown => true
  | .pushing => false

/-! ### The commit (R135, R142) -/

/-- The Press Tracker's part of a commit (R100). -/
def PressTracker.committed (k : PressTracker) : PressTracker :=
  { k with gaugeBillet := 0, stopRec := none, queue := [], stopZone := none, weldZone := none }

/-- The Section Assembler's part of a commit (R62). -/
def Assembler.committed (a : Assembler) (tDef : Nat) : Assembler :=
  { a with pend := [], heldTemp := tDef, noReading := 0 }

/-- The Piece Tracker's part of a commit after the close of the open piece (R121, R103). -/
def PieceTracker.committed (t : PieceTracker) : PieceTracker :=
  { t with settled := 0, presented := 0, awaited := [], results := [], frontCrop := none, burst := 0, episode := false }

/-- Clears the busy flag of the active slot, if any (R129). -/
def State.clearBusy (s : State) : State :=
  match s.cc.active with
  | some i => s.putSlot i { s.dieSlot i with busy := false }
  | none => s

/-- What a commit writes: the target, the active die ID, the activation die ID, the link left in the target and the link
left in the slot being left (none: as it stands), and the reverted mark. -/
structure Commit where
  target : Fin 8
  die : Option Nat
  activation : Option Nat
  targetLink : Option SlotLink
  leftLink : Option (Option SlotLink)
  reverted : Bool
  deriving DecidableEq, Repr

/-- The link of the slot being left after a commit (R136, R142). -/
def State.writeLeftLink (s : State) (l : Option (Option SlotLink)) : State :=
  match s.cc.active, l with
  | some i, some link => s.putSlot i { s.dieSlot i with link := link }
  | _, _ => s

/-- The Context Controller's part of a commit (R135 step 6, R129, R136, R142). -/
def State.commitContext (s : State) (c : Commit) : State :=
  let s := (s.writeLeftLink c.leftLink).clearBusy
  let s := s.putSlot c.target { s.dieSlot c.target with busy := true, link := c.targetLink }
  s.setCc { s.cc with
    active := some c.target, activeDie := c.die, activation := s.cc.activation.set c.target c.activation,
    haltBin := none,
    outcome := { kind := .pending, slot := some c.target, die := c.die, reverted := c.reverted, missing := 0 } }

/-- The commit of a switch or of a revert, in the order of R135. The compilation completes no later than 2,000 µs after
it (R137). -/
def State.commit (s : State) (c : Commit) : State :=
  let s := s.closePiece .dieEnd s.pt.settled
  let s := s.setPk s.pk.committed
  let s := s.setSa (s.sa.committed (s.dieSlot c.target).record.tDef)
  let s := s.setPt s.pt.committed
  let s := s.setGe { compiled := none, handed := [] }
  let s := s.commitContext c
  let s := s.setLt s.lt.zeroed
  let s := s.setAu { s.au with matchAt := none }
  let s := s.setLp { s.lp with decim := 0 }
  s.setCc { s.cc with engine := .switching, compileBy := some (s.lt.time + 2000) }

/-! ### DIE_CHANGE (R133, R136) and REVERT (R141, R142) -/

/-- A check of DIE_CHANGE or REVERT fails (R133, R141): SWITCH_FAILED is raised, and the reply carries the number of the
check and the detail index. -/
def State.switchFailed (s : State) (check : Nat) (code : ResultCode) (detail : Nat) : Answer :=
  ⟨s.raise .switchFailed, code, detail, .checkFailed check detail⟩

/-- The link that a DIE_CHANGE commit writes in its target (R136). -/
def State.linkHere (s : State) : Option SlotLink :=
  s.cc.active.map fun i => { slot := i, gen := (s.dieSlot i).gen }

/-- The directory entry of a die ID with its enabled mark set (R133 check 3). -/
def State.enabledEntry (s : State) (die : Nat) : Option DirEntry :=
  s.cc.dir.find? fun e => e.die == die && e.enabled

/-- DIE_CHANGE (R133, R135, R136). -/
def State.dieChange (s : State) (die : Nat) : Answer :=
  if s.cc.engine = .switching then s.switchFailed 1 .busy 0
  else if !s.pk.state.letsSwitch then s.switchFailed 2 .wrongState 0
  else match s.enabledEntry die with
    | none => s.switchFailed 3 .noContext 0
    | some e =>
      let d := s.dieSlot e.slot
      if d.state ≠ .sealed then s.switchFailed 4 .noContext 0
      else if d.busy then s.switchFailed 5 .alreadyActive 0
      else match firstBad s.headCheck d.probes with
        | some k => s.switchFailed 6 .headUnavailable k
        | none =>
          let link := s.linkHere
          (s.commit { target := e.slot, die := some die, activation := some die, targetLink := link, leftLink := none,
                      reverted := false }).taken .accepted (.switched e.slot s.cc.active link)

/-- The link of the active slot (R141 check 2): none in IDLE. -/
def State.activeLink (s : State) : Option SlotLink := s.cc.active.bind fun i => (s.dieSlot i).link

/-- REVERT (R141, R142). -/
def State.revertSwitch (s : State) : Answer :=
  if s.cc.engine = .switching then s.switchFailed 1 .busy 0
  else if s.cc.engine = .idle then s.switchFailed 2 .noLink 0
  else match s.activeLink with
    | none => s.switchFailed 2 .noLink 0
    | some link =>
      let d := s.dieSlot link.slot
      if !s.pk.state.letsSwitch then s.switchFailed 3 .wrongState 0
      else if d.state ≠ .sealed ∨ d.gen ≠ link.gen then s.switchFailed 4 .staleLink 0
      else match firstBad s.headCheck d.probes with
        | some k => s.switchFailed 5 .headUnavailable k
        | none =>
          let die := s.cc.activation[link.slot]
          (s.commit { target := link.slot, die := die, activation := die, targetLink := d.link, leftLink := some none,
                      reverted := true }).taken .accepted (.switched link.slot s.cc.active d.link)

/-! ### Completion of compilation (R137, R138) -/

/-- The switch outcome at completion (R138): CLEAN when every referenced head is ACTIVE, else DEGRADED. -/
def State.outcomeOf (s : State) (c : Compiled) : SwitchOutcome :=
  let missing := c.referenced &&& ~~~(headSet fun h => (s.head h).isActive)
  { s.cc.outcome with kind := if missing = 0 then .clean else .degraded, missing := missing }

/-- COMPILATION_COMPLETE (R137), in its order; nothing when no compilation runs. -/
def State.compilationDone (s : State) : State :=
  match s.cc.engine, s.cc.active with
  | .switching, some i =>
    let c := compile (s.dieSlot i) s.lt.geom.quad
    let s := s.setGe { s.ge with compiled := some c }
    let s := s.setCc { s.cc with outcome := s.outcomeOf c, engine := .ready, compileBy := none }
    let s := s.setLt (s.lt.takeGrid s.params)
    let s := (s.openPiece 0 false).advance
    s.raise .switchDone
  | _, _ => s

/-! ### The settings commands -/

/-- SET_GEOMETRY (R35). -/
def State.setGeometry (s : State) (payload : List Byte) : Answer :=
  match s.cc.engine with
  | .switching => s.refuse .busy 0
  | .ready | .running | .halting => s.refuse .wrongState 0
  | .idle => match geometryFault payload with
    | some n => s.refuse .badValue n
    | none => (s.setLt { s.lt with geom := geometryOf payload }).taken .ok .summaryOnly

/-- A head after SET_HEADS (R52): `on` says whether it is enabled after the command. -/
def Head.setEnabled (x : Head) (on : Bool) : Head :=
  match x.enabled, on with
  | false, true => { x with status := .hunting, miss := 0, recov := 0, fault := .clear }
  | true, false => { x with status := .disabled, miss := 0, recov := 0, lock := false }
  | _, _ => x

/-- A SET_HEADS or SET_HEAD_CAL refused with a detail index. Its reply carries the head items, as "the reply" of R51 and
R53 does (log 13). -/
def State.refuseHeads (s : State) (code : ResultCode) (detail : Nat) : Answer := ⟨s, code, detail, .heads s.headItems⟩

/-- SET_HEADS accepted (R51, R52): the settings, the heads, and the completion test of every WAITING slot (R57). That the
slots are tested once, after all four heads have changed, is the model's choice (DESIGN CHOICE, log 41). -/
def State.applyHeads (s : State) (enable timeout m r : Nat) : State :=
  let set : HeadSet := BitVec.ofNat 4 enable
  State.settleSections (s.setHl
    { heads := perHead fun h => (s.head h).setEnabled (HeadSet.has set h), timeout := timeout, lostM := m, recR := r })

/-- SET_HEADS (R51, R52). -/
def State.setHeads (s : State) (enable timeout m r : Nat) : Answer :=
  if s.cc.engine = .switching then s.refuseHeads .busy 0
  else match firstFailing [(1, natIn 0 15 enable), (2, natIn 1 255 timeout), (3, natIn 1 64 m), (4, natIn 1 64 r)] with
    | some n => s.refuseHeads .badValue n
    | none =>
      let s := s.applyHeads enable timeout m r
      s.taken .ok (.heads s.headItems)

/-- SET_HEAD_CAL (R53). -/
def State.setHeadCal (s : State) (head : Byte) (ox oy scale : Int) : Answer :=
  if s.cc.engine = .switching then s.refuseHeads .busy 0
  else match firstFailing
      [(1, natIn 0 3 head.toNat), (2, intIn (-1000000) 1000000 ox), (3, intIn (-1000000) 1000000 oy),
       (4, intIn (-2000) 2000 scale)] with
    | some n => s.refuseHeads .badValue n
    | none =>
      let h := fourOf head
      let s := s.putHead h { s.head h with ox := ox, oy := oy, scale := scale }
      s.taken .ok (.heads s.headItems)

/-! ### Resets -/

/-- A head after a soft reset (R46). -/
def Head.softReset (x : Head) : Head :=
  { x with
    status := if x.enabled then .hunting else .disabled, miss := 0, recov := 0, fault := .clear, lock := false }

/-- The soft reset (R143, R181): each block takes the soft-reset values of its chapter (R28, R32, R37, R46, R62, R64, R84,
R103, R128, R145, R155, R166). -/
def State.softReset (s : State) : State :=
  let s := s.setLt s.lt.zeroed
  let s := s.setHl { s.hl with heads := perHead fun h => (s.head h).softReset }
  let s := s.setSa State.reset.sa
  let s := s.setGe State.reset.ge
  let s := s.setPk State.reset.pk
  let s := s.setPt State.reset.pt
  let s := s.setCc { s.cc with
    slots := s.cc.slots.map fun d => { d with busy := false }
    engine := .idle, active := none, activeDie := none, haltBin := none, outcome := SwitchOutcome.blank,
    compileBy := none }
  let s := s.setRq State.reset.rq
  let s := s.setAu { State.reset.au with enable := s.au.enable }
  s.setLp { s.lp with
    slot := none, error := none, fault := .clear, decim := 0, traceBuf := none, replaced := 0 }

/-- RESET_ENGINE (R181). -/
def State.resetEngine (s : State) : Answer := s.softReset.taken .ok .summaryOnly

/-- HARD_RESET (R182): the reset line is asserted once it has been held low for 10 µs; every block takes its hard-reset
values. The queue of waiting commands is the model's own and is kept. -/
def State.hardReset (s : State) (lowUs : Nat) : State :=
  if lowUs < 10 then s else (State.reset.setInReset true).setPending s.pending

/-- HARD_RESET_RELEASE (R182): the part takes events from now on, its time base counting from 0. -/
def State.hardResetRelease (s : State) : State := s.setInReset false

end Sys2Proof.Machine
end

