-- ==== Sys2Proof/Machine/LinePort.lean ====
section
/-! DEFINITION. The Line Port (chapter 10): decoding commands, replies, the transmitter, and inbound frames. -/

namespace Sys2Proof.Machine

/-! ### What replies carry -/

/-- The status summary of a reply with a result code (R175). -/
def State.summary (s : State) (code : ResultCode) : Summary :=
  { engine := s.cc.engine, active := s.cc.active, press := s.pk.state, heads := perHead fun h => (s.head h).status,
    reports := s.rq.reports.length, alert := s.au.flags != 0, marks := s.pk.queue.length, result := code }

/-- The items of the GET_STATUS reply (R179). -/
def State.statusItems (s : State) : StatusItems :=
  { activeDie := s.cc.activeDie, haltBin := s.cc.haltBin, outcome := s.cc.outcome,
    live := s.lt.live, settled := s.pt.settled, debt := s.lt.debt, limit := s.lt.limit,
    pressBillet := s.pk.billet, gaugeBillet := s.pk.gaugeBillet, stopRec := s.pk.stopRec,
    heads := s.headItems,
    seq := s.sa.seq, pendingSections := s.sa.pend.length, heldTemp := s.sa.heldTemp, noReading := s.sa.noReading,
    openPiece := s.pt.piece.map Piece.number, openBins := (s.pt.piece.map Piece.binCount).getD 0,
    freeBins := s.pt.free, burst := s.pt.burst,
    fetchPtr := s.rq.fetchPtr, lastDropped := s.rq.lastDropped, queued := s.rq.reports.map Report.number,
    flags := s.au.flags, enable := s.au.enable, matchAt := s.au.matchAt, alertNumber := s.au.number,
    commandQueue := s.lp.queue.length, traceN := s.lp.traceN, replaced := s.lp.replaced, lineFault := s.lp.fault }

/-! ### Commands (R173) -/

/-- A command of the catalogue with a payload of the required length, taken by the block that owns it (R173 step 3). The
payloads are laid out by R185. `arrival` is the frame's arrival stamp. -/
def State.runCommand (s : State) (c : Command) (arrival : Nat) (p : List Byte) : Answer :=
  match c with
  | .identify => s.taken .ok .identity
  | .sense => s.taken .ok (.errorRecord s.lp.error)
  | .getStatus => s.taken .ok (.status s.statusItems)
  | .setGeometry => s.setGeometry p
  | .setHeads => s.setHeads (natAt p 0 1) (natAt p 1 1) (natAt p 2 1) (natAt p 3 1)
  | .setHeadCal => s.setHeadCal (byteAt p 0) (intAt p 1 4) (intAt p 5 4) (intAt p 9 2)
  | .openSlot => s.onSlot p s.openSlot
  | .writeParams => s.onSlot p fun i => s.writeParams i (p.drop 1)
  | .writeProbesFirst => s.onSlot p fun i => s.writeProbes i 0 (tableRecords 25 p)
  | .writeProbesNext => s.onSlot p fun i => s.writeProbes i (s.dieSlot i).probePtr (tableRecords 25 p)
  | .writeGaugesFirst => s.onSlot p fun i => s.writeGauges i 0 (tableRecords 21 p)
  | .writeGaugesNext => s.onSlot p fun i => s.writeGauges i (s.dieSlot i).gaugePtr (tableRecords 21 p)
  | .sealSlot => s.onSlot p s.sealSlot
  | .eraseSlot => s.onSlot p s.eraseSlot
  | .querySlot => s.onSlot p s.querySlot
  | .mapDie => s.mapDie (natAt p 0 2) (byteAt p 2) (byteAt p 3)
  | .unmapDie => s.unmapDie (natAt p 0 2)
  | .dieChange => s.dieChange (natAt p 0 2)
  | .revert => s.revertSwitch
  | .start => s.startEngine
  | .halt => s.haltEngine
  | .noteRamStop => s.ramStop arrival (natAt p 0 2)
  | .noteRamStart => s.ramStart arrival (natAt p 0 2) (natAt p 2 2)
  | .noteCut => s.cutNotice arrival (natAt p 0 2)
  | .fetchFirst => s.fetchFirst
  | .fetchNext => s.fetchNext
  | .setFetchPointer => s.setFetchPointer (natAt p 0 2)
  | .release => s.release (natAt p 0 2)
  | .setTrace => s.setTrace (natAt p 0 1)
  | .setNotices => s.setNotices (BitVec.ofNat 16 (natAt p 0 2))
  | .ackAlerts => s.ackAlerts (BitVec.ofNat 16 (natAt p 0 2))
  | .setMatch => s.setMatch (natAt p 0 1) (natAt p 1 4)
  | .resetEngine => s.resetEngine

/-- The steps 1 to 3 of decoding a command frame (R173). -/
def State.answerFrame (s : State) (f : CmdFrame) : Answer :=
  match commandOfCode f.code with
  | none => s.refuse .unknownCommand 0
  | some c => if lengthOk c f.payload then s.runCommand c f.arrival f.payload else s.refuse .lengthMismatch 0

/-- Step 4 of R173: a refusal writes the error record (R177), and the reply is formed after the command's own effect and
placed in the reply slot (R175). -/
def Answer.reply (a : Answer) (f : CmdFrame) : State :=
  a.st.setLp { a.st.lp with
    error := if a.code.isAnswer then a.st.lp.error
      else some { code := f.code, tag := f.tag, result := a.code, detail := a.detail }
    slot := some { code := f.code, tag := f.tag, summary := a.st.summary a.code, items := a.items } }

/-- The decoder takes the oldest queued frame when the reply slot is empty (R172). -/
def State.takeFrame (s : State) : State :=
  match s.lp.slot, s.lp.queue with
  | none, f :: rest => ((s.setLp { s.lp with queue := rest }).answerFrame f).reply f
  | _, _ => s

/-! ### The transmitter (R180) -/

/-- The contents of the pending alert frame at its start (R148). -/
def State.alertBody (s : State) (newly : FlagSet) : AlertBody :=
  { number := s.au.number, newly := newly, flags := s.au.flags, engine := s.cc.engine, settled := s.pt.settled }

/-- The transmitter starts a frame on the line link (R180, R187). -/
def State.startFrame (s : State) (f : OutFrame) : State :=
  s.setLp { s.lp with tx := some f, enc := s.lp.enc.send lineLink f.wire }

/-- The transmitter, while it is idle, starts the first ready source (R180): the reply, the pending alert frame (R148), the
trace (R167). -/
def State.transmit (s : State) : State :=
  match s.lp.tx with
  | some _ => s
  | none =>
    match s.lp.slot, s.au.newly, s.lp.traceBuf with
    | some r, _, _ => State.startFrame (s.setLp { s.lp with slot := none }) (.reply r)
    | none, some newly, _ =>
      (s.startFrame (.alert (s.alertBody newly))).setAu { s.au with newly := none, number := s.au.number + 1 }
    | none, none, some t =>
      State.startFrame (s.setLp { s.lp with traceBuf := none, replaced := 0 }) (.trace s.lp.replaced t)
    | none, none, none => s

/-- What the Line Port does at the end of a step (R172, R180): the decoder takes a frame if it may, the idle transmitter
starts the first ready source, and a reply so started lets the decoder take the next frame. -/
def State.settle (s : State) : State := s.takeFrame.transmit.takeFrame

/-- The state after the decoder, free until then, has taken a command frame that arrived now and was answered `a`: the
reply stands in its slot, or is being sent when the transmitter was idle (R171 to R173, R180). -/
def Answer.sent (a : Answer) (code tag : Byte) (payload : List Byte) (arrival : Nat) : State :=
  (a.reply { code := code, tag := tag, payload := payload, arrival := arrival }).transmit

/-! ### Inbound frames (R169 to R171) -/

/-- A good command frame arrives (R171): it is queued with its arrival stamp, or discarded with CMD_OVERFLOW. -/
def State.goodCommand (s : State) (code tag : Byte) (payload : List Byte) : State :=
  if s.lp.queue.length < 4 then
    s.setLp { s.lp with
      queue := s.lp.queue ++ [{ code := code, tag := tag, payload := payload, arrival := s.lt.time }] }
  else s.raise .cmdOverflow

/-- A faulty inbound frame (R170): the last line fault, and FRAME_ERROR. -/
def State.lineFaulty (s : State) (f : LineFault) : State := (s.setLp { s.lp with fault := f }).raise .frameError

/-- The checks 2 to 5 of R170, in their order, on the bytes of an inbound frame (R185). Bytes that end before a field a
check reads fail check 4 (log 20). -/
def checkLineFrame (bs : List Byte) : Except LineFault (Byte × Byte × List Byte) :=
  let n := natAt bs 3 2
  if bs.length < 1 then .error .length
  else if natAt bs 0 1 ≠ 1 then .error .kind
  else if bs.length < 5 then .error .length
  else if 1024 < n then .error .size
  else if bs.length < 9 + n then .error .length
  else if !crcMatches bs (5 + n) then .error .crc
  else .ok (byteAt bs 2, byteAt bs 1, (bs.drop 5).take n)

/-- An inbound frame comes to its end, without a symbol error (R170). -/
def State.lineFrame (s : State) (bs : List Byte) : State :=
  match checkLineFrame bs with
  | .error f => s.lineFaulty f
  | .ok (code, tag, payload) => s.goodCommand code tag payload

/-- LINE_LOCK_LOSS (R169, R170): in the middle of a frame it makes that frame faulty. -/
def State.lineLockLoss (s : State) (inFrame : Bool) : State :=
  if s.lp.lock then
    let s := s.setLp { s.lp with lock := false }
    if inFrame then s.lineFaulty .lock else s
  else s

/-- Whether a line frame has all its bytes, or a payload length that does not say where it ends (R169, R170, R185). That a
frame with such a length has its end at the length's last byte, the header's, is the model's choice (DESIGN CHOICE, log 44). -/
def lineWhole (bs : List Byte) : Bool :=
  decide (5 ≤ bs.length ∧ (1024 < natAt bs 3 2 ∨ 9 + natAt bs 3 2 ≤ bs.length))

/-- What the line receiver finds takes effect (R169, R170). -/
def State.lineFinds (s : State) (e : LinkEvent) : State :=
  match e with
  | .symbolError => s.lineFaulty .symbol
  | .frame bs => s.lineFrame bs

/-- The line receiver, while it holds lock, reads a run of symbols (R169, R187). -/
def State.lineHears (s : State) (inFrame ended : Bool) (run : List Symbol) : State :=
  if s.lp.lock then
    let r := hear lineWhole s.lp.rxRd inFrame ended run
    r.2.foldl State.lineFinds (s.setLp { s.lp with rxRd := r.1 })
  else s

/-- LINE_FRAME_RECEIVED (R169, R170): the run ends where the frame ends. -/
def State.lineFrameEnds (s : State) (run : List Symbol) : State := s.lineHears false true run

/-- LINE_SYMBOL_ERROR (R169, R170, R187): inside a frame it ends the frame as faulty; between frames it is ignored. -/
def State.lineSymbolError (s : State) (inFrame : Bool) (run : List Symbol) (sym : Symbol) : State :=
  s.lineHears inFrame false (run ++ [sym])

/-- LINE_LOCK_GAIN (R169), at the stream's running disparity (log 37). -/
def State.lineLockGain (s : State) : State :=
  s.setLp { s.lp with lock := true, rxRd := Config.disparityAtLock lineLink s.lt.time }

/-- TRANSMIT_FRAME_END (R180): the frame being sent finishes. -/
def State.frameEnd (s : State) : State := s.setLp { s.lp with tx := none }

end Sys2Proof.Machine
end

