-- ==== Sys2Proof/Machine/Timers.lean ====
section
/-! DEFINITION. The microsecond time base (R31) and the events it brings: sample ticks, the spacing timer (R41), assembly
timeouts (R58) and the latest completion of a compilation (R137). -/

namespace Sys2Proof.Machine

/-- What the time base brings about. -/
inductive Due where
  | sample
  | spacing
  | timeout (seq : Seq)
  | compilation
  deriving DecidableEq, Repr

/-- The WAITING slots with their expiry times (R58). -/
def State.waitingSlots (s : State) : List (Nat × Due) :=
  (s.sa.pend.filter fun p => p.contrib.isNone).map fun p => (p.expiry, .timeout p.seq)

/-- Everything that the time base will bring about next, with its time. Of two events at one time the earlier in this
list comes first (log 17). -/
def State.dueList (s : State) : List (Nat × Due) :=
  [(s.lt.lastTick + 1000, .sample)] ++ (s.lt.spacingExpiry.toList.map fun t => (t, .spacing)) ++ s.waitingSlots ++
  (s.cc.compileBy.toList.map fun t => (t, .compilation))

/-- The earliest entry of a list, the first of equal ones. -/
def earliest : List (Nat × Due) → Option (Nat × Due)
  | [] => none
  | x :: xs => match earliest xs with
    | none => some x
    | some y => if y.1 < x.1 then some y else some x

/-- The next event that comes before a time. -/
def State.nextDue (s : State) (limit : Nat) : Option (Nat × Due) :=
  earliest (s.dueList.filter fun d => decide (d.1 < limit))

/-- The time base reaches a time; it never runs back (R31). -/
def State.timeTo (s : State) (t : Nat) : State := s.setLt { s.lt with time := max s.lt.time t }

/-- The spacing timer expires and stops (R41). -/
def State.spacingExpires (s : State) : State := s.setLt { s.lt with spacingExpiry := none }

/-- One event that the time base brings about at time `t`. -/
def State.fire (s : State) (t : Nat) (d : Due) : State :=
  let s := s.timeTo t
  match d with
  | .sample => s.takeSample t
  | .spacing => s.spacingExpires
  | .timeout seq => s.expireSlot seq
  | .compilation => s.compilationDone

/-- Brings about the events that come before `limit`, in the order of their times, each with what the Line Port does at its
end; `n` bounds their number. -/
def State.runTimers : Nat → State → Nat → State
  | 0, s, _ => s
  | n + 1, s, limit => match s.nextDue limit with
    | none => s
    | some (t, d) => State.runTimers n (s.fire t d).settle limit

/-- A bound on the number of events that come before `limit`: the sample ticks, four slots, the spacing timer and the
compilation. -/
def State.timerBound (s : State) (limit : Nat) : Nat := (limit - s.lt.lastTick) / 1000 + 7

/-- Everything that comes before `limit` (log 3). -/
def State.upTo (s : State) (limit : Nat) : State := State.runTimers (s.timerBound limit) s limit

/-- One microsecond of the time base passes (R31): what it brings about at the new time included (log 2). -/
def State.tick (s : State) : State :=
  if s.inReset then s
  else
    let t := s.lt.time + 1
    (s.upTo (t + 1)).timeTo t

/-- The time-driven rows (log 3): the time base runs to time `t`, everything before it first, and `d` comes about. -/
def State.driven (s : State) (t : Nat) (d : Due) : State := (s.upTo t).fire t d

/-- SAMPLE_TICK (R31): the time base reaches the next whole multiple of 1,000 µs. -/
def State.sampleTick (s : State) : State := s.driven (s.lt.lastTick + 1000) .sample

/-- SPACING_TIMER_EXPIRY (R41): nothing while the timer does not run. -/
def State.spacingRow (s : State) : State :=
  match s.lt.spacingExpiry with
  | some t => s.driven t .spacing
  | none => s

/-- The WAITING slot of a sequence number. -/
def State.waitingSlot (s : State) (seq : Seq) : Option PendSlot :=
  s.sa.pend.find? fun p => p.seq == seq && p.contrib.isNone

/-- ASSEMBLY_TIMEOUT_EXPIRY (R58): nothing when no slot of that sequence number is WAITING. -/
def State.timeoutRow (s : State) (seq : Seq) : State :=
  match s.waitingSlot seq with
  | some p => s.driven p.expiry (.timeout seq)
  | none => s

end Sys2Proof.Machine
end

