-- ==== Sys2Proof/Machine/Events.lean ====
section
/-! DEFINITION. The meanings of the rows that no command frame carries: counts, ticks, timers, link events, evaluation and
application of sections, the end of compilation, the transmitter, and the reset line. -/

namespace Sys2Proof.Machine

/-- An event of the part: while the reset line is asserted the part takes none (R182); otherwise its effect comes about,
and the Line Port does what then falls to it (R172, R180). -/
def event (f : State → State) (s : State) : Host.Outcome State Fault Refusal :=
  .next (if s.inReset then s else (f s).settle)

/-- WHEEL_COUNT (R26 to R30, R38). -/
def execWheelCount (a b : Bool) (s : State) : Host.Outcome State Fault Refusal :=
  event (·.wheel a b) s

/-- SAMPLE_TICK (R31). -/
def execSampleTick (s : State) : Host.Outcome State Fault Refusal :=
  event State.sampleTick s

/-- SPACING_TIMER_EXPIRY (R41). -/
def execSpacingTimerExpiry (s : State) : Host.Outcome State Fault Refusal :=
  event State.spacingRow s

/-- ASSEMBLY_TIMEOUT_EXPIRY (R58). -/
def execAssemblyTimeoutExpiry (seq : Seq) (s : State) : Host.Outcome State Fault Refusal :=
  event (·.timeoutRow seq) s

/-- SECTION_FRAME_RECEIVED (R45, R47, R50, R56, R57). -/
def execSectionFrameReceived (head : Fin 4) (run : List Symbol) (s : State) : Host.Outcome State Fault Refusal :=
  event (·.sectionFrameEnds head run) s

/-- HEAD_LOCK_LOSS (R44, R48). -/
def execHeadLockLoss (head : Fin 4) (s : State) : Host.Outcome State Fault Refusal :=
  event (·.headLockLoss head) s

/-- HEAD_SYMBOL_ERROR (R44, R48, R187). -/
def execHeadSymbolError (head : Fin 4) (inFrame : Bool) (run : List Symbol) (sym : Symbol) (s : State) :
    Host.Outcome State Fault Refusal :=
  event (·.headSymbolError head inFrame run sym) s

/-- SECTION_EVALUATION (R65). -/
def execSectionEvaluation (s : State) : Host.Outcome State Fault Refusal :=
  event State.evaluateNext s

/-- SECTION_APPLICATION (R106). -/
def execSectionApplication (s : State) : Host.Outcome State Fault Refusal :=
  event State.applySection s

/-- COMPILATION_COMPLETE (R137, R138). -/
def execCompilationComplete (s : State) : Host.Outcome State Fault Refusal :=
  event State.compilationDone s

/-- LINE_FRAME_RECEIVED (R169 to R172). -/
def execLineFrameReceived (run : List Symbol) (s : State) : Host.Outcome State Fault Refusal :=
  event (·.lineFrameEnds run) s

/-- LINE_LOCK_LOSS (R169, R170). -/
def execLineLockLoss (inFrame : Bool) (s : State) : Host.Outcome State Fault Refusal :=
  event (·.lineLockLoss inFrame) s

/-- LINE_SYMBOL_ERROR (R169, R170, R187). -/
def execLineSymbolError (inFrame : Bool) (run : List Symbol) (sym : Symbol) (s : State) :
    Host.Outcome State Fault Refusal :=
  event (·.lineSymbolError inFrame run sym) s

/-- TRANSMIT_FRAME_END (R180). -/
def execTransmitFrameEnd (s : State) : Host.Outcome State Fault Refusal :=
  event State.frameEnd s

/-- HARD_RESET (R182): taken in every state. -/
def execHardReset (lowUs : Nat) (s : State) : Host.Outcome State Fault Refusal :=
  .next (s.hardReset lowUs)

/-- HARD_RESET_RELEASE (R182): the part takes events from now on. -/
def execHardResetRelease (s : State) : Host.Outcome State Fault Refusal :=
  .next s.hardResetRelease

/-- HEAD_LOCK_GAIN (R44). -/
def execHeadLockGain (head : Fin 4) (s : State) : Host.Outcome State Fault Refusal :=
  event (·.headLockGain head) s

/-- LINE_LOCK_GAIN (R169). -/
def execLineLockGain (s : State) : Host.Outcome State Fault Refusal :=
  event State.lineLockGain s

end Sys2Proof.Machine
end

