-- ==== Sys2Proof/Machine/Commands.lean ====
section
/-! DEFINITION. The meanings of the command rows. Each is the arrival of a good command frame of its code at the Line Port
(R171), which the decoder takes at once when it is free, and else when the replies before it have been started (R172);
decoding it runs the command at the block that owns it (R173). Log 1. -/

namespace Sys2Proof.Machine

/-- A good command frame arrives. -/
def commandFrame (code tag : Byte) (payload : List Byte) (s : State) : Host.Outcome State Fault Refusal :=
  event (·.goodCommand code tag payload) s

/-- IDENTIFY (R178). -/
def execIdentify (tag : Byte) (payload : List Byte) (s : State) : Host.Outcome State Fault Refusal :=
  commandFrame Command.identify.code tag payload s

/-- SENSE (R177). -/
def execSense (tag : Byte) (payload : List Byte) (s : State) : Host.Outcome State Fault Refusal :=
  commandFrame Command.sense.code tag payload s

/-- GET_STATUS (R179). -/
def execGetStatus (tag : Byte) (payload : List Byte) (s : State) : Host.Outcome State Fault Refusal :=
  commandFrame Command.getStatus.code tag payload s

/-- SET_GEOMETRY (R35). -/
def execSetGeometry (tag : Byte) (payload : List Byte) (s : State) : Host.Outcome State Fault Refusal :=
  commandFrame Command.setGeometry.code tag payload s

/-- SET_HEADS (R51). -/
def execSetHeads (tag : Byte) (payload : List Byte) (s : State) : Host.Outcome State Fault Refusal :=
  commandFrame Command.setHeads.code tag payload s

/-- SET_HEAD_CAL (R53). -/
def execSetHeadCal (tag : Byte) (payload : List Byte) (s : State) : Host.Outcome State Fault Refusal :=
  commandFrame Command.setHeadCal.code tag payload s

/-- OPEN_SLOT (R9). -/
def execOpenSlot (tag : Byte) (payload : List Byte) (s : State) : Host.Outcome State Fault Refusal :=
  commandFrame Command.openSlot.code tag payload s

/-- WRITE_PARAMS (R11). -/
def execWriteParams (tag : Byte) (payload : List Byte) (s : State) : Host.Outcome State Fault Refusal :=
  commandFrame Command.writeParams.code tag payload s

/-- WRITE_PROBES_FIRST (R12). -/
def execWriteProbesFirst (tag : Byte) (payload : List Byte) (s : State) : Host.Outcome State Fault Refusal :=
  commandFrame Command.writeProbesFirst.code tag payload s

/-- WRITE_PROBES_NEXT (R12). -/
def execWriteProbesNext (tag : Byte) (payload : List Byte) (s : State) : Host.Outcome State Fault Refusal :=
  commandFrame Command.writeProbesNext.code tag payload s

/-- WRITE_GAUGES_FIRST (R13). -/
def execWriteGaugesFirst (tag : Byte) (payload : List Byte) (s : State) : Host.Outcome State Fault Refusal :=
  commandFrame Command.writeGaugesFirst.code tag payload s

/-- WRITE_GAUGES_NEXT (R13). -/
def execWriteGaugesNext (tag : Byte) (payload : List Byte) (s : State) : Host.Outcome State Fault Refusal :=
  commandFrame Command.writeGaugesNext.code tag payload s

/-- SEAL_SLOT (R15). -/
def execSealSlot (tag : Byte) (payload : List Byte) (s : State) : Host.Outcome State Fault Refusal :=
  commandFrame Command.sealSlot.code tag payload s

/-- ERASE_SLOT (R20). -/
def execEraseSlot (tag : Byte) (payload : List Byte) (s : State) : Host.Outcome State Fault Refusal :=
  commandFrame Command.eraseSlot.code tag payload s

/-- QUERY_SLOT (R21). -/
def execQuerySlot (tag : Byte) (payload : List Byte) (s : State) : Host.Outcome State Fault Refusal :=
  commandFrame Command.querySlot.code tag payload s

/-- MAP_DIE (R24). -/
def execMapDie (tag : Byte) (payload : List Byte) (s : State) : Host.Outcome State Fault Refusal :=
  commandFrame Command.mapDie.code tag payload s

/-- UNMAP_DIE (R25). -/
def execUnmapDie (tag : Byte) (payload : List Byte) (s : State) : Host.Outcome State Fault Refusal :=
  commandFrame Command.unmapDie.code tag payload s

/-- DIE_CHANGE (R133). -/
def execDieChange (tag : Byte) (payload : List Byte) (s : State) : Host.Outcome State Fault Refusal :=
  commandFrame Command.dieChange.code tag payload s

/-- REVERT (R141). -/
def execRevert (tag : Byte) (payload : List Byte) (s : State) : Host.Outcome State Fault Refusal :=
  commandFrame Command.revert.code tag payload s

/-- START (R130). -/
def execStart (tag : Byte) (payload : List Byte) (s : State) : Host.Outcome State Fault Refusal :=
  commandFrame Command.start.code tag payload s

/-- HALT (R131). -/
def execHalt (tag : Byte) (payload : List Byte) (s : State) : Host.Outcome State Fault Refusal :=
  commandFrame Command.halt.code tag payload s

/-- NOTE_RAM_STOP (R87). -/
def execNoteRamStop (tag : Byte) (payload : List Byte) (s : State) : Host.Outcome State Fault Refusal :=
  commandFrame Command.noteRamStop.code tag payload s

/-- NOTE_RAM_START (R89). -/
def execNoteRamStart (tag : Byte) (payload : List Byte) (s : State) : Host.Outcome State Fault Refusal :=
  commandFrame Command.noteRamStart.code tag payload s

/-- NOTE_CUT (R92). -/
def execNoteCut (tag : Byte) (payload : List Byte) (s : State) : Host.Outcome State Fault Refusal :=
  commandFrame Command.noteCut.code tag payload s

/-- FETCH_FIRST (R160). -/
def execFetchFirst (tag : Byte) (payload : List Byte) (s : State) : Host.Outcome State Fault Refusal :=
  commandFrame Command.fetchFirst.code tag payload s

/-- FETCH_NEXT (R161). -/
def execFetchNext (tag : Byte) (payload : List Byte) (s : State) : Host.Outcome State Fault Refusal :=
  commandFrame Command.fetchNext.code tag payload s

/-- SET_FETCH_POINTER (R163). -/
def execSetFetchPointer (tag : Byte) (payload : List Byte) (s : State) : Host.Outcome State Fault Refusal :=
  commandFrame Command.setFetchPointer.code tag payload s

/-- RELEASE (R164). -/
def execRelease (tag : Byte) (payload : List Byte) (s : State) : Host.Outcome State Fault Refusal :=
  commandFrame Command.release.code tag payload s

/-- SET_TRACE (R166). -/
def execSetTrace (tag : Byte) (payload : List Byte) (s : State) : Host.Outcome State Fault Refusal :=
  commandFrame Command.setTrace.code tag payload s

/-- SET_NOTICES (R152). -/
def execSetNotices (tag : Byte) (payload : List Byte) (s : State) : Host.Outcome State Fault Refusal :=
  commandFrame Command.setNotices.code tag payload s

/-- ACK_ALERTS (R150). -/
def execAckAlerts (tag : Byte) (payload : List Byte) (s : State) : Host.Outcome State Fault Refusal :=
  commandFrame Command.ackAlerts.code tag payload s

/-- SET_MATCH (R154). -/
def execSetMatch (tag : Byte) (payload : List Byte) (s : State) : Host.Outcome State Fault Refusal :=
  commandFrame Command.setMatch.code tag payload s

/-- RESET_ENGINE (R181). -/
def execResetEngine (tag : Byte) (payload : List Byte) (s : State) : Host.Outcome State Fault Refusal :=
  commandFrame Command.resetEngine.code tag payload s

/-- UNKNOWN_COMMAND (R173): a good command frame whose code names no command. -/
def execUnknownCommand (code tag : Byte) (payload : List Byte) (s : State) : Host.Outcome State Fault Refusal :=
  commandFrame code tag payload s

end Sys2Proof.Machine
end

