-- ==== Sys2Proof/Machine/Dispatch.lean ====
section
/-! DEFINITION. The meaning of every command: one arm per row of spec/opcode_table.json. -/

namespace Sys2Proof.Machine

def exec (i : Instr) (s : State) : Host.Outcome State Fault Refusal :=
  match i with
  | .wheelCount a b => Sys2Proof.Machine.execWheelCount a b s
  | .sampleTick => Sys2Proof.Machine.execSampleTick s
  | .spacingTimerExpiry => Sys2Proof.Machine.execSpacingTimerExpiry s
  | .assemblyTimeoutExpiry seq => Sys2Proof.Machine.execAssemblyTimeoutExpiry seq s
  | .sectionFrameReceived head run => Sys2Proof.Machine.execSectionFrameReceived head run s
  | .headLockLoss head => Sys2Proof.Machine.execHeadLockLoss head s
  | .headSymbolError head inFrame run sym => Sys2Proof.Machine.execHeadSymbolError head inFrame run sym s
  | .sectionEvaluation => Sys2Proof.Machine.execSectionEvaluation s
  | .sectionApplication => Sys2Proof.Machine.execSectionApplication s
  | .compilationComplete => Sys2Proof.Machine.execCompilationComplete s
  | .lineFrameReceived run => Sys2Proof.Machine.execLineFrameReceived run s
  | .lineLockLoss inFrame => Sys2Proof.Machine.execLineLockLoss inFrame s
  | .lineSymbolError inFrame run sym => Sys2Proof.Machine.execLineSymbolError inFrame run sym s
  | .transmitFrameEnd => Sys2Proof.Machine.execTransmitFrameEnd s
  | .hardReset lowUs => Sys2Proof.Machine.execHardReset lowUs s
  | .hardResetRelease => Sys2Proof.Machine.execHardResetRelease s
  | .identify tag payload => Sys2Proof.Machine.execIdentify tag payload s
  | .sense tag payload => Sys2Proof.Machine.execSense tag payload s
  | .getStatus tag payload => Sys2Proof.Machine.execGetStatus tag payload s
  | .setGeometry tag payload => Sys2Proof.Machine.execSetGeometry tag payload s
  | .setHeads tag payload => Sys2Proof.Machine.execSetHeads tag payload s
  | .setHeadCal tag payload => Sys2Proof.Machine.execSetHeadCal tag payload s
  | .openSlot tag payload => Sys2Proof.Machine.execOpenSlot tag payload s
  | .writeParams tag payload => Sys2Proof.Machine.execWriteParams tag payload s
  | .writeProbesFirst tag payload => Sys2Proof.Machine.execWriteProbesFirst tag payload s
  | .writeProbesNext tag payload => Sys2Proof.Machine.execWriteProbesNext tag payload s
  | .writeGaugesFirst tag payload => Sys2Proof.Machine.execWriteGaugesFirst tag payload s
  | .writeGaugesNext tag payload => Sys2Proof.Machine.execWriteGaugesNext tag payload s
  | .sealSlot tag payload => Sys2Proof.Machine.execSealSlot tag payload s
  | .eraseSlot tag payload => Sys2Proof.Machine.execEraseSlot tag payload s
  | .querySlot tag payload => Sys2Proof.Machine.execQuerySlot tag payload s
  | .mapDie tag payload => Sys2Proof.Machine.execMapDie tag payload s
  | .unmapDie tag payload => Sys2Proof.Machine.execUnmapDie tag payload s
  | .dieChange tag payload => Sys2Proof.Machine.execDieChange tag payload s
  | .revert tag payload => Sys2Proof.Machine.execRevert tag payload s
  | .start tag payload => Sys2Proof.Machine.execStart tag payload s
  | .halt tag payload => Sys2Proof.Machine.execHalt tag payload s
  | .noteRamStop tag payload => Sys2Proof.Machine.execNoteRamStop tag payload s
  | .noteRamStart tag payload => Sys2Proof.Machine.execNoteRamStart tag payload s
  | .noteCut tag payload => Sys2Proof.Machine.execNoteCut tag payload s
  | .fetchFirst tag payload => Sys2Proof.Machine.execFetchFirst tag payload s
  | .fetchNext tag payload => Sys2Proof.Machine.execFetchNext tag payload s
  | .setFetchPointer tag payload => Sys2Proof.Machine.execSetFetchPointer tag payload s
  | .release tag payload => Sys2Proof.Machine.execRelease tag payload s
  | .setTrace tag payload => Sys2Proof.Machine.execSetTrace tag payload s
  | .setNotices tag payload => Sys2Proof.Machine.execSetNotices tag payload s
  | .ackAlerts tag payload => Sys2Proof.Machine.execAckAlerts tag payload s
  | .setMatch tag payload => Sys2Proof.Machine.execSetMatch tag payload s
  | .resetEngine tag payload => Sys2Proof.Machine.execResetEngine tag payload s
  | .unknownCommand code tag payload => Sys2Proof.Machine.execUnknownCommand code tag payload s
  | .headLockGain head => Sys2Proof.Machine.execHeadLockGain head s
  | .lineLockGain => Sys2Proof.Machine.execLineLockGain s

end Sys2Proof.Machine
end

