-- ==== Sys2Proof/Safety.lean ====
section
/-! DEFINITION. What a sound state of the part is, in the terms the statements use: when the decoder is free, what an
event leaves alone, and the laws that hold between the blocks; and what the rules on bins, pieces and reports give,
written out for the statements without the machine's operations. -/

namespace Sys2Proof.Machine

/-! ### The command rows and the decoder -/

/-- The row of the table that brings a good frame of a command. -/
def commandRow (c : Command) (tag : Byte) (payload : List Byte) : Instr :=
  match c with
  | .identify => .identify tag payload
  | .sense => .sense tag payload
  | .getStatus => .getStatus tag payload
  | .setGeometry => .setGeometry tag payload
  | .setHeads => .setHeads tag payload
  | .setHeadCal => .setHeadCal tag payload
  | .openSlot => .openSlot tag payload
  | .writeParams => .writeParams tag payload
  | .writeProbesFirst => .writeProbesFirst tag payload
  | .writeProbesNext => .writeProbesNext tag payload
  | .writeGaugesFirst => .writeGaugesFirst tag payload
  | .writeGaugesNext => .writeGaugesNext tag payload
  | .sealSlot => .sealSlot tag payload
  | .eraseSlot => .eraseSlot tag payload
  | .querySlot => .querySlot tag payload
  | .mapDie => .mapDie tag payload
  | .unmapDie => .unmapDie tag payload
  | .dieChange => .dieChange tag payload
  | .revert => .revert tag payload
  | .start => .start tag payload
  | .halt => .halt tag payload
  | .noteRamStop => .noteRamStop tag payload
  | .noteRamStart => .noteRamStart tag payload
  | .noteCut => .noteCut tag payload
  | .fetchFirst => .fetchFirst tag payload
  | .fetchNext => .fetchNext tag payload
  | .setFetchPointer => .setFetchPointer tag payload
  | .release => .release tag payload
  | .setTrace => .setTrace tag payload
  | .setNotices => .setNotices tag payload
  | .ackAlerts => .ackAlerts tag payload
  | .setMatch => .setMatch tag payload
  | .resetEngine => .resetEngine tag payload

/-- The part takes events, and its decoder takes the next good frame at once (R172). -/
def State.Listening (s : State) : Prop := s.inReset = false ∧ s.lp.slot = none ∧ s.lp.queue = []

/-- The part takes events, and no frame or reply waits for a decoder or a transmitter that could take it now (R172, R180):
no frame is queued while the reply slot is empty, and no reply waits while the transmitter is idle. Every step leaves the
Line Port so (see LineSound). -/
def State.Drained (s : State) : Prop :=
  s.inReset = false ∧ (s.lp.slot = none → s.lp.queue = []) ∧ (s.lp.tx = none → s.lp.slot = none)

/-- The state after a command of the catalogue, taken at once, is answered `a`. -/
def State.replyTo (s : State) (c : Command) (tag : Byte) (payload : List Byte) (a : Answer) : State :=
  a.sent c.code tag payload s.lt.time

/-! ### Laws between the blocks, each kept by every step -/

/-- The Line Port at the end of a step (R171, R172, R180): at most four frames queued; none while the reply slot is empty;
and an idle transmitter has no ready source. -/
def State.LineSound (s : State) : Prop :=
  s.lp.queue.length ≤ 4 ∧ (s.lp.slot = none → s.lp.queue = []) ∧
  (s.lp.tx = none → s.lp.slot = none ∧ s.au.newly = none ∧ s.lp.traceBuf = none)

/-- The pending alert frame (R147 to R149): its newly set flags are not empty, are set, and are enabled. -/
def State.AlertSound (s : State) : Prop :=
  ∀ n, s.au.newly = some n → n ≠ 0 ∧ n &&& ~~~s.au.flags = 0 ∧ n &&& ~~~s.au.enable = 0

/-- The busy law (R129): a slot is busy exactly when it is the active slot, a busy slot is SEALED, and only in IDLE is there
no active slot. -/
def State.BusySound (s : State) : Prop :=
  (∀ i, (s.dieSlot i).busy = true ↔ s.cc.active = some i) ∧
  (∀ i, (s.dieSlot i).busy = true → (s.dieSlot i).state = .sealed) ∧
  (s.cc.engine = .idle ↔ s.cc.active = none)

/-- Whether the engine state is one in which a piece is open (R116, R131). -/
def EngineState.tracks : EngineState → Bool
  | .ready | .running | .halting => true
  | .idle | .switching => false

/-- The number of bin records the open piece holds. -/
def PieceTracker.held (t : PieceTracker) : Nat :=
  match t.piece with
  | some p => p.binCount
  | none => 0

/-- The number of bin records the queued reports hold. -/
def ReportQueue.held (q : ReportQueue) : Nat := (q.reports.map fun r => r.bins.length).sum

/-- The bin pool (R123, R156, R120): free records, records of the open piece and of the queued reports total 1,024; the
queue holds at most six reports of 1 to 256 bins; the open piece holds at most 256; and a piece is open exactly in READY,
RUNNING and HALTING. -/
def State.PoolSound (s : State) : Prop :=
  s.pt.free + s.pt.held + s.rq.held = 1024 ∧
  s.rq.reports.length ≤ 6 ∧ (∀ r ∈ s.rq.reports, 1 ≤ r.bins.length ∧ r.bins.length ≤ 256) ∧
  s.pt.held ≤ 256 ∧ (s.pt.piece.isSome = true ↔ s.cc.engine.tracks = true)

/-- The mark queue (R96): at most 16 entries in ascending order of start, each above the settled coordinate. -/
def State.MarksSound (s : State) : Prop :=
  s.pk.queue.length ≤ 16 ∧ s.pk.queue.Pairwise (fun a b => a.start ≤ b.start) ∧
  ∀ m ∈ s.pk.queue, s.pt.settled < m.start

/-- The coordinates (R28, R30, R104): the coordinate last presented is the live one, the settled coordinate does not exceed
it, and no section on its way lies above it; the accumulator has 48 bits and the debt 16. At most four sections are
pending (R55, R60). -/
def State.CoordSound (s : State) : Prop :=
  s.sa.pend.length ≤ 4 ∧
  s.lt.acc ≤ maxAcc ∧ s.lt.debt ≤ 65535 ∧ s.pt.presented = s.lt.live ∧ s.pt.settled ≤ s.lt.live ∧
  (∀ p ∈ s.sa.pend, p.coord ≤ s.lt.live) ∧ (∀ x ∈ s.pt.awaited, x ≤ s.lt.live) ∧
  (∀ h ∈ s.ge.handed, h.coord ≤ s.lt.live) ∧ (∀ r ∈ s.pt.results, r.coord ≤ s.lt.live)

/-- The coordinate history (R31): 64 samples, none above the live coordinate, non-decreasing from index 63 down to 0. -/
def State.HistorySound (s : State) : Prop :=
  s.lt.history.length = 64 ∧ (∀ c ∈ s.lt.history, c ≤ s.lt.live) ∧ s.lt.history.Pairwise (fun a b => b ≤ a)

/-- The die slots (R1, R10): written counts and write pointers within the tables, the pointer at or below the count; a
SEALED slot has a parameter record and a digest, an EMPTY slot has nothing. -/
def DieSlot.Sound (d : DieSlot) : Prop :=
  d.probes.length ≤ 64 ∧ d.probePtr ≤ d.probes.length ∧ d.gauges.length ≤ 32 ∧ d.gaugePtr ≤ d.gauges.length ∧
  (d.state = .sealed → d.params.isSome = true ∧ d.digest.isSome = true) ∧
  (d.state ≠ .sealed → d.digest = none) ∧
  (d.state = .empty → d.params = none ∧ d.probes = [] ∧ d.gauges = [] ∧ d.link = none)

/-- Every die slot is sound, and the directory holds at most 32 entries, no two with one die ID (R23). -/
def State.SlotsSound (s : State) : Prop :=
  (∀ i, (s.dieSlot i).Sound) ∧ s.cc.dir.length ≤ 32 ∧ (s.cc.dir.map DirEntry.die).Nodup

/-! ### What the rules give, written out -/

/-- The verdict of a bin: the first row of R114 that holds. -/
def Rule.verdict (par : Params) (b : Bin) : Verdict :=
  if b.tags &&& par.policy ≠ 0 then .rejectZone
  else if ∃ g ∈ b.gauges, g.worst = .out then .rejectDim
  else if b.sections = 0 ∨ par.ungaugedLimit * b.sections < b.notGauged * 100 then .ungauged
  else if ∃ g ∈ b.gauges, g.worst = .warn then .acceptWarn else .accept

/-- A bin that closes with its end at `e` (R114, R117). -/
def Rule.closed (s : State) (b : Bin) (e : Nat) : Bin :=
  { b with stop := e, billet := s.pk.gaugeBillet, verdict := some (Rule.verdict s.params b) }

/-- A bin after the back crop of a cut at `x`: tagged BACK_CROP (bit 3, R184) when it shares a coordinate with
[x − back crop, x), and judged again when the tag is new (R111). -/
def Rule.cropped (par : Params) (x : Nat) (b : Bin) : Bin :=
  if max b.start (x - par.backCrop) < min b.stop x ∧ b.tags &&& 8 = 0 then
    { b with tags := b.tags ||| 8, verdict := some (Rule.verdict par { b with tags := b.tags ||| 8 }) }
  else b

/-- The tags of the open zones (R108; STOP bit 0, WELD bit 1, FRONT_CROP bit 2, R184). -/
def Rule.openTags (s : State) : ZoneSet :=
  (if s.pk.stopZone = none then 0 else 1) ||| (if s.pk.weldZone = none then 0 else 2) |||
  (if s.pt.frontCrop = none then 0 else 4)

/-- A bin as it opens at `p` with given tags (R112): one gauge entry for each enabled gauge, ascending. Its billet of 0 is
the model's choice (log 38). -/
def Rule.opened (s : State) (index p : Nat) (tags : ZoneSet) : Bin :=
  { index := index, start := p, stop := min (p + s.params.binLen) 4294967295, billet := 0, tags := tags,
    sections := 0, notGauged := 0, tMin := none, tMax := none, coalesced := false, verdict := none,
    gauges := s.ge.compiled.toList.flatMap fun c =>
      (c.gauges.zipIdx.filter fun x => x.1.enabledByte != 0).map fun x => { idx := x.2, worst := .ungraded, dev := none } }

/-- The Report Queue after a drop (R158). -/
def Rule.dropped (s : State) : State :=
  match s.rq.reports with
  | [] => s
  | r :: rest => ((s.setPt { s.pt with free := s.pt.free + r.bins.length }).setRq
      { reports := rest, fetchPtr := 0, lastDropped := some r.number }).raise .reportOverrun

/-- The Report Queue after an append (R157). -/
def Rule.appended (s : State) (r : Report) : State :=
  let u := if s.rq.reports.length < 6 then s else Rule.dropped s
  (u.setRq { u.rq with reports := u.rq.reports ++ [r] }).raise .pieceReady

/-- The end of a halt at a close (R132). -/
def Rule.haltEnded (s : State) : State :=
  if s.cc.engine = .halting then (s.setCc { s.cc with engine := .ready, haltBin := none }).raise .haltDone else s

/-- The report of a piece that closes with a reason at `e` (R111, R117, R122): an empty current bin is removed when the
piece holds another. -/
def Rule.report (s : State) (p : Piece) (reason : CloseReason) (e : Nat) : Report :=
  let bins := if e = p.cur.start ∧ p.closed ≠ [] then p.closed else p.closed ++ [Rule.closed s p.cur e]
  { number := p.number, slot := (s.cc.active.map Fin.val).getD 0, die := s.cc.activeDie.getD 0, reason := reason,
    flags := p.flags, start := p.start, stop := e,
    bins := if reason = .cut then bins.map (Rule.cropped s.params e) else bins }

/-- The part after a piece closes with a reason at `e`, but for the end of a halt (R117, R123, R157). -/
def Rule.pieceClosed (s : State) (p : Piece) (reason : CloseReason) (e : Nat) : State :=
  let r := Rule.report s p reason e
  Rule.appended (s.setPt { s.pt with piece := none, free := s.pt.free + (p.closed.length + 1 - r.bins.length) }) r

/-- The zones whose close point is `y` close (R108). -/
def Rule.zonesClosed (s : State) (y : Nat) : State :=
  (s.setPk { s.pk with
    stopZone := if s.pk.stopZone = some y then none else s.pk.stopZone
    weldZone := if s.pk.weldZone = some y then none else s.pk.weldZone }).setPt
  { s.pt with frontCrop := if s.pt.frontCrop = some y then none else s.pt.frontCrop }

/-- A STOP or WELD mark applied at `y` (R107, R108): the end belongs to a STOP zone and not to a WELD zone; a close point at or
below `y` only tags. -/
def Rule.zoneMark (y : Nat) (s : State) (m : Mark) : State :=
  let close := min (if m.kind = .stop then m.stop + 1 else m.stop) 4294967295
  let longer := fun zone : Option Nat => if close ≤ y then zone else some (max (zone.getD 0) close)
  let k : PressTracker := if m.kind = .weld then
      { s.pk with weldZone := longer s.pk.weldZone, gaugeBillet := m.billet.getD 0 }
    else { s.pk with stopZone := longer s.pk.stopZone }
  (s.setPk k).setPt { s.pt with piece := s.pt.piece.map fun p => { p with
    flags := if m.est then p.flags ||| 4 else p.flags
    cur := { p.cur with tags := p.cur.tags ||| (if m.kind = .weld then 2 else 1) } } }

/-- A later bin `b` folded into the bin `a` (R119). -/
def Rule.folded (a b : Bin) : Bin :=
  { a with
    sections := min (a.sections + b.sections) 65535, notGauged := min (a.notGauged + b.notGauged) 65535
    tMin := (a.tMin.toList ++ b.tMin.toList).min?, tMax := (a.tMax.toList ++ b.tMax.toList).max?
    tags := a.tags ||| b.tags, coalesced := a.coalesced || b.coalesced, verdict := none
    gauges := List.zipWith (fun g h => { g with
      worst := if g.worst = .out ∨ h.worst = .out then .out else if g.worst = .warn ∨ h.worst = .warn then .warn
        else if g.worst = .inTol ∨ h.worst = .inTol then .inTol else .ungraded
      dev := match g.dev, h.dev with
        | some x, some y => if x.natAbs < y.natAbs then some y else some x
        | some x, none => some x
        | none, d => d }) a.gauges b.gauges }

/-- The head items of a reply (R54). -/
def Rule.headItems (s : State) : HeadItems :=
  { timeout := s.hl.timeout, lostM := s.hl.lostM, recR := s.hl.recR
    heads := perHead fun h =>
      let x := s.head h
      { enabled := decide (x.status ≠ .disabled), status := x.status, miss := x.miss, recov := x.recov, fault := x.fault,
        ox := x.ox, oy := x.oy, scale := x.scale } }

/-! ### What a receiver reads (R44, R169, R187) -/

/-- Symbols none of which is K27.7. -/
abbrev Rule.noStart (run : List Symbol) : Prop := ∀ x ∈ run, x ≠ 0b1101101000#10 ∧ x ≠ 0b0010010111#10

/-- A receiver's running disparity after symbols, each judged at the disparity that those before it leave; after a symbol
error it is free (log 37). -/
def Rule.heard (rd : Disparity) (run : List Symbol) : Disparity :=
  run.foldl (fun r x => if isSymbolError r x then Config.disparityAfterError r x else disparityAfter x r) rd

/-- The symbols of a frame, or of the beginning of one, behind symbols that belong to no frame, as a receiver at disparity
`rd` reads them without a symbol error in the frame. -/
def Rule.framed (rd : Disparity) (gap : List Symbol) (bs : List Byte) : List Symbol :=
  gap ++ frameSymbols (Rule.heard rd gap) bs

end Sys2Proof.Machine
end

