-- ==== Sys2Proof/Certificates/Slice0/Obligations.lean ====
section
/-! DEFINITION. The statements about the model that the provers take up. In each statement about a row, `exec` answers a next
state that is written out: what the written state does not change stays as it was, which is the row's frame. After an
event the idle transmitter starts the first ready source (`transmit`, R180), chosen at the end of the step (log 4); after a command taken at once the state is
`replyTo` with the command's answer (R173, R175). -/

open Sys2Proof Sys2Proof.Machine

/-! ### The queue of commands, time, reset -/

/-- One step runs the row at the front of `pending` with the queue's rest. `pending` is the model's own queue of waiting rows
(log 31, log 34, DESIGN CHOICE), not the Line Port's queue of frames. -/
def Obligations.StepTakesTheFrontCommand : Prop :=
  ∀ (s : State) (c : Instr) (rest : List Instr), s.pending = c :: rest → step s = exec c (s.setPending rest)

/-- On an empty queue one microsecond passes: the model's choice (log 2). Nothing comes about before it is due, and the sample
tick comes at its time (R31). Under an asserted reset line nothing happens (R182). -/
def Obligations.IdleStepPassesOneMicrosecond : Prop :=
  ∀ s : State, s.pending = [] →
    (s.inReset = true → step s = .next s) ∧
    (s.inReset = false → (∀ d ∈ s.dueList, s.lt.time + 1 < d.1) →
      step s = .next (s.setLt { s.lt with time := s.lt.time + 1 })) ∧
    (s.inReset = false → s.LineSound → s.lt.lastTick + 1000 = s.lt.time + 1 →
      (∀ d ∈ s.dueList, d.2 ≠ .sample → s.lt.time + 1 < d.1) →
      step s = .next (s.setLt { s.lt with
        time := s.lt.time + 1, lastTick := s.lt.time + 1, history := s.lt.live :: s.lt.history.take 63 }))

/-- The hard-reset values of every block (R1, R23, R34, R46, R55, R64, R84, R103, R128, R145, R155, R166, R182). -/
def Obligations.ResetHoldsTheHardResetValues : Prop :=
  (∀ i, State.reset.dieSlot i = {
    state := .empty, gen := 0, busy := false, link := none, params := none, probes := [], probePtr := 0, gauges := [],
    gaugePtr := 0, digest := none }) ∧ State.reset.cc.dir = [] ∧ State.reset.cc.engine = .idle ∧
  State.reset.cc.active = none ∧ State.reset.cc.activeDie = none ∧ (∀ i : Fin 8, State.reset.cc.activation[i] = none) ∧
  State.reset.cc.haltBin = none ∧ State.reset.cc.outcome = { kind := .unset, slot := none, die := none, reverted := false, missing := 0 } ∧
  State.reset.lt.debt = 0 ∧ State.reset.lt.acc = 0 ∧ State.reset.lt.limit = false ∧ State.reset.lt.time = 0 ∧
  State.reset.lt.history = List.replicate 64 0 ∧ State.reset.lt.pitch = none ∧ State.reset.lt.spacing = none ∧
  State.reset.lt.nextGrid = some 0 ∧ State.reset.lt.spacingExpiry = none ∧
  State.reset.lt.geom = { dDie := 100000, dSaw := 50000, scale := 65536, dir := .phaseALeads, quad := ⟨0, 1, 2, 3⟩ } ∧
  (∀ h, (State.reset.head h).status = .hunting ∧ (State.reset.head h).miss = 0 ∧ (State.reset.head h).recov = 0 ∧
    (State.reset.head h).fault = .clear ∧ (State.reset.head h).ox = 0 ∧ (State.reset.head h).oy = 0 ∧
    (State.reset.head h).scale = 0 ∧ (State.reset.head h).lock = false) ∧
  State.reset.hl.timeout = 20 ∧ State.reset.hl.lostM = 8 ∧ State.reset.hl.recR = 16 ∧
  State.reset.sa.pend = [] ∧ State.reset.sa.seq = 0 ∧ State.reset.sa.heldTemp = 0 ∧ State.reset.sa.noReading = 0 ∧
  State.reset.ge.compiled = none ∧ State.reset.ge.handed = [] ∧
  State.reset.pk.state = .unknown ∧ State.reset.pk.billet = 0 ∧ State.reset.pk.gaugeBillet = 0 ∧
  State.reset.pk.stopRec = none ∧ State.reset.pk.queue = [] ∧ State.reset.pk.stopZone = none ∧
  State.reset.pk.weldZone = none ∧
  State.reset.pt.settled = 0 ∧ State.reset.pt.awaited = [] ∧ State.reset.pt.piece = none ∧ State.reset.pt.free = 1024 ∧
  State.reset.pt.frontCrop = none ∧ State.reset.pt.nextPiece = 1 ∧ State.reset.pt.burst = 0 ∧
  State.reset.pt.episode = false ∧
  State.reset.rq.reports = [] ∧ State.reset.rq.fetchPtr = 0 ∧ State.reset.rq.lastDropped = none ∧
  State.reset.au.flags = 0 ∧ State.reset.au.enable = 0 ∧ State.reset.au.newly = none ∧ State.reset.au.number = 0 ∧
  State.reset.au.matchAt = none ∧
  State.reset.lp.lock = false ∧ State.reset.lp.queue = [] ∧ State.reset.lp.slot = none ∧ State.reset.lp.tx = none ∧
  State.reset.lp.error = none ∧ State.reset.lp.fault = .clear ∧ State.reset.lp.traceN = 0 ∧
  State.reset.lp.decim = 0 ∧ State.reset.lp.traceBuf = none ∧ State.reset.lp.replaced = 0

/-- Every law between the blocks holds right after reset. -/
def Obligations.ResetIsSound : Prop :=
  State.reset.LineSound ∧ State.reset.AlertSound ∧ State.reset.BusySound ∧ State.reset.PoolSound ∧
  State.reset.MarksSound ∧ State.reset.CoordSound ∧ State.reset.HistorySound ∧
  State.reset.SlotsSound

/-- While the reset line is asserted the part takes no event: nothing but a hard reset and its release changes it (R182). -/
def Obligations.NoEventUnderReset : Prop :=
  ∀ (i : Instr) (s : State), s.inReset = true → (∀ n, i ≠ .hardReset n) → i ≠ .hardResetRelease → exec i s = .next s

/-- HARD_RESET and HARD_RESET_RELEASE (R182): a line low for 10 µs or more gives every block its hard-reset values and holds
the part; a shorter low level applies no reset; the release lets the part take events. The queue of waiting commands is
the model's own and is kept. -/
def Obligations.HardResetAndRelease : Prop :=
  ∀ (n : Nat) (s : State),
    (10 ≤ n → exec (.hardReset n) s = .next ((State.reset.setInReset true).setPending s.pending)) ∧
    (n < 10 → exec (.hardReset n) s = .next s) ∧
    exec .hardResetRelease s = .next (s.setInReset false)

/-! ### Laws that every step keeps -/

/-- At the end of every step at most four frames are queued, none while the reply slot is empty, and an idle transmitter has
no ready source (R171, R172, R180). -/
def Obligations.LineLawKept : Prop := ∀ s t : State, s.LineSound → step s = .next t → t.LineSound

/-- The newly set flags of a pending alert frame are never empty, are set and are enabled (R147 to R149). -/
def Obligations.AlertLawKept : Prop := ∀ s t : State, s.AlertSound → step s = .next t → t.AlertSound

/-- The busy law (R129). -/
def Obligations.BusyLawKept : Prop := ∀ s t : State, s.BusySound → step s = .next t → t.BusySound

/-- The bin pool total, the bounds of the report queue and of the pieces, and the open piece's presence by engine state
(R120, R123, R131, R156). -/
def Obligations.PoolLawKept : Prop := ∀ s t : State, s.PoolSound → step s = .next t → t.PoolSound

/-- The mark queue's length and order, and its place above the settled coordinate (R96). -/
def Obligations.MarkLawKept : Prop := ∀ s t : State, s.MarksSound → step s = .next t → t.MarksSound

/-- The settled coordinate never exceeds the live coordinate, nor does any section on its way; the accumulator and the debt
keep their ranges, and at most four sections are pending (R27, R28, R55, R104). -/
def Obligations.CoordLawKept : Prop := ∀ s t : State, s.CoordSound → step s = .next t → t.CoordSound

/-- The history holds 64 samples, non-decreasing from index 63 down to index 0 and not above the live coordinate (R31), in
every state that keeps the law of the coordinates (CoordLawKept). -/
def Obligations.HistoryLawKept : Prop :=
  ∀ s t : State, s.CoordSound → s.HistorySound → step s = .next t → t.HistorySound

/-- The tables, pointers, digests and the directory keep their bounds (R1, R10, R19, R23). -/
def Obligations.SlotLawKept : Prop := ∀ s t : State, s.SlotsSound → step s = .next t → t.SlotsSound

/-! ### The Line Port -/

/-- Every command of the catalogue, with a payload of the required length, is taken at once by a free decoder: the block that
owns it acts, and its reply is formed (R172, R173). That a command row is the arrival of its frame is the model's choice
(log 1). -/
def Obligations.CommandTakenAtOnce : Prop :=
  ∀ (c : Command) (tag : Byte) (p : List Byte) (s : State), s.Listening → lengthOk c p = true →
    exec (commandRow c tag p) s = .next (s.replyTo c tag p (s.runCommand c s.lt.time p))

/-- A code that names no command is refused UNKNOWN_COMMAND, and a payload of another length LENGTH_MISMATCH, each with detail
index 0; neither reaches a block (R173, R174). -/
def Obligations.RefusedBeforeAnyBlock : Prop :=
  ∀ (tag : Byte) (p : List Byte) (s : State), s.Listening →
    (∀ code, commandOfCode code = none → exec (.unknownCommand code tag p) s =
      .next (Answer.sent ⟨s, .unknownCommand, 0, .summaryOnly⟩ code tag p s.lt.time)) ∧
    (∀ c, lengthOk c p = false → exec (commandRow c tag p) s =
      .next (s.replyTo c tag p ⟨s, .lengthMismatch, 0, .summaryOnly⟩))

/-- A good frame that arrives while a reply waits behind a frame being sent is queued with its arrival stamp, or, with four
frames queued, discarded with CMD_OVERFLOW (R171, R172). -/
def Obligations.FrameWaitsOrOverflows : Prop :=
  ∀ (c : Command) (tag : Byte) (p : List Byte) (s : State),
    s.inReset = false → s.lp.slot.isSome = true → s.lp.tx.isSome = true →
    (s.lp.queue.length < 4 → exec (commandRow c tag p) s = .next (s.setLp { s.lp with
      queue := s.lp.queue ++ [{ code := c.code, tag := tag, payload := p, arrival := s.lt.time }] })) ∧
    (4 ≤ s.lp.queue.length → exec (commandRow c tag p) s = .next (s.raise .cmdOverflow))

/-- What `replyTo` holds: the reply, with the status summary of the state after the command's effect, is being sent when the transmitter was idle and
else stands in the slot; a refusal alone writes the error record; every other block is as the command
left it (R175, R177, R180). That the idle transmitter starts the reply before an enabled alert that the same command raised
earlier in the step is DEDUCED (log 4): it chooses at the end of the step. -/
def Obligations.ReplyFormed : Prop :=
  ∀ (a : Answer) (code tag : Byte) (p : List Byte) (arrival : Nat),
    let summary : Summary := {
      engine := a.st.cc.engine, active := a.st.cc.active, press := a.st.pk.state
      heads := perHead fun h => (a.st.head h).status
      reports := a.st.rq.reports.length, alert := decide (a.st.au.flags ≠ 0), marks := a.st.pk.queue.length
      result := a.code }
    let r : Reply := { code := code, tag := tag, summary := summary, items := a.items }
    let e := if a.code = .ok ∨ a.code = .accepted ∨ a.code = .noEffect then a.st.lp.error
      else some { code := code, tag := tag, result := a.code, detail := a.detail }
    (a.st.lp.tx = none →
      a.sent code tag p arrival = a.st.setLp { a.st.lp with
        error := e, slot := none, tx := some (.reply r), enc := a.st.lp.enc.send 4 (OutFrame.wire (.reply r)) }) ∧
    (a.st.lp.tx.isSome = true →
      a.sent code tag p arrival = a.st.setLp { a.st.lp with error := e, slot := some r })

/-- TRANSMIT_FRAME_END (R148, R167, R172, R180): the transmitter starts the reply, else the pending alert frame, else the
trace, else stays idle; starting the reply lets the decoder take the next queued frame. The line code of a started frame
(R187): a number of idle symbols K28.5, which is free (log 36), the frame-start symbol K27.7 and the data symbols of
the bytes, each at the running disparity that the symbols before it leave. -/
def Obligations.TransmitterOrder : Prop :=
  ∀ s : State, s.inReset = false → (s.lp.slot = none → s.lp.queue = []) →
    (∀ r, s.lp.slot = some r → s.lp.queue = [] →
      exec .transmitFrameEnd s = .next (s.setLp { s.lp with
        slot := none, tx := some (.reply r), enc := s.lp.enc.send 4 (OutFrame.wire (.reply r)) })) ∧
    (∀ r f rest, s.lp.slot = some r → s.lp.queue = f :: rest →
      exec .transmitFrameEnd s = .next (((s.setLp { s.lp with
        queue := rest, slot := none, tx := some (.reply r)
        enc := s.lp.enc.send 4 (OutFrame.wire (.reply r)) }).answerFrame f).reply f)) ∧
    (∀ n, s.lp.slot = none → s.au.newly = some n →
      let f : OutFrame := .alert {
        number := s.au.number, newly := n, flags := s.au.flags, engine := s.cc.engine, settled := s.pt.settled }
      exec .transmitFrameEnd s = .next ((s.setLp { s.lp with tx := some f, enc := s.lp.enc.send 4 f.wire }).setAu
        { s.au with newly := none, number := s.au.number + 1 })) ∧
    (∀ b, s.lp.slot = none → s.au.newly = none → s.lp.traceBuf = some b →
      exec .transmitFrameEnd s = .next (s.setLp { s.lp with
        tx := some (.trace s.lp.replaced b), traceBuf := none, replaced := 0
        enc := s.lp.enc.send 4 (OutFrame.wire (.trace s.lp.replaced b)) })) ∧
    (s.lp.slot = none → s.au.newly = none → s.lp.traceBuf = none →
      exec .transmitFrameEnd s = .next (s.setLp { s.lp with tx := none })) ∧
    ∀ (e : Encoder) (link : Nat) (bs : List Byte),
      let sent := (e.send link bs).symbols
      let n := Config.idleRun link e.started
      let before := fun k : Nat => disparityOver (sent.take k) e.rd
      sent.length = n + 1 + bs.length ∧
      (∀ k < n, sent[k]? = some (if before k = .minus then 0b0011111010#10 else 0b1100000101#10)) ∧
      sent[n]? = some (if before n = .minus then 0b1101101000#10 else 0b0010010111#10) ∧
      (∀ k b, bs[k]? = some b → sent[n + 1 + k]? = some (encodeData (before (n + 1 + k)) b).1) ∧
      (∀ k x, sent[k]? = some x → isSymbolError (before k) x = false) ∧
      (e.send link bs).rd = disparityOver sent e.rd ∧ (e.send link bs).started = e.started + 1

/-- A line frame laid out as R185 says, with its CRC, is the command it carries: the symbols of the frame at the receiver's
running disparity, behind symbols that belong to no frame, act as the command's row does (R170, R171, R183, R185, R187).
That a command's row is the arrival of its frame, at a busy decoder too, is the model's choice (log 1). -/
def Obligations.LineFrameIsItsCommand : Prop :=
  ∀ (c : Command) (tag : Byte) (p : List Byte) (gap : List Symbol) (s : State), s.inReset = false → s.lp.lock = true →
    p.length ≤ 1024 → Rule.noStart gap →
    let run := Rule.framed s.lp.rxRd gap (withCrc ([1, tag, c.code] ++ leBytes 2 p.length ++ p))
    let u := s.setLp { s.lp with rxRd := Rule.heard s.lp.rxRd run }
    exec (.lineFrameReceived run) s = exec (commandRow c tag p) u ∧
    (s.Listening → lengthOk c p = true →
      exec (.lineFrameReceived run) s = .next (u.replyTo c tag p (u.runCommand c s.lt.time p)))

/-- A faulty line frame is discarded: the first check that fails gives the last line fault and FRAME_ERROR is raised; a loss
of lock or a symbol error inside a frame that is not yet whole does the same; between frames neither does; without lock
nothing is received (R169, R170). Every symbol is judged at the receiver's running disparity and moves it (R187); the
disparity after an error and at a gain of lock is free (log 37). What the rows carry is log 9; that a frame with a payload
length above 1,024 ends at its header is the model's choice (log 44). -/
def Obligations.FaultyLineFrame : Prop :=
  ∀ s : State, s.Drained →
    let rd := s.lp.rxRd
    let u := fun run : List Symbol => s.setLp { s.lp with rxRd := Rule.heard rd run }
    let faulty := fun (run : List Symbol) (f : LineFault) =>
      ((s.setLp { s.lp with rxRd := Rule.heard rd run, fault := f }).raise .frameError).transmit
    let unended := fun bs : List Byte => bs.length < 5 ∨ (natAt bs 3 2 ≤ 1024 ∧ bs.length < 9 + natAt bs 3 2)
    (∀ gap bs f, s.lp.lock = true → Rule.noStart gap → checkLineFrame bs = .error f →
      let run := Rule.framed rd gap bs
      exec (.lineFrameReceived run) s = .next (faulty run f)) ∧
    (∀ gap bs bad rest run sym, s.lp.lock = true → Rule.noStart gap → Rule.noStart rest → unended bs →
      isSymbolError (Rule.heard rd (Rule.framed rd gap bs)) bad = true →
      run ++ [sym] = Rule.framed rd gap bs ++ bad :: rest →
      exec (.lineFrameReceived (run ++ [sym])) s = .next (faulty (run ++ [sym]) .symbol) ∧
      exec (.lineSymbolError false run sym) s = .next (faulty (run ++ [sym]) .symbol)) ∧
    (∀ bs bad rest run sym, s.lp.lock = true → Rule.noStart rest → unended bs →
      isSymbolError (Rule.heard rd (encodeBytes rd bs)) bad = true → run ++ [sym] = encodeBytes rd bs ++ bad :: rest →
      exec (.lineSymbolError true run sym) s = .next (faulty (run ++ [sym]) .symbol)) ∧
    (∀ run sym, s.lp.lock = true → Rule.noStart (run ++ [sym]) →
      exec (.lineFrameReceived run) s = .next (u run).transmit ∧
      exec (.lineSymbolError false run sym) s = .next (u (run ++ [sym])).transmit) ∧
    (s.lp.lock = false → (∀ run, exec (.lineFrameReceived run) s = .next s.transmit) ∧
      exec (.lineLockLoss true) s = .next s.transmit ∧
      ∀ inFrame run sym, exec (.lineSymbolError inFrame run sym) s = .next s.transmit) ∧
    (s.lp.lock = true → exec (.lineLockLoss true) s =
      .next ((s.setLp { s.lp with lock := false, fault := .lock }).raise .frameError).transmit) ∧
    (exec (.lineLockLoss false) s = .next (s.setLp { s.lp with lock := false }).transmit) ∧
    exec .lineLockGain s = .next (s.setLp { s.lp with
      lock := true, rxRd := Config.disparityAtLock 4 s.lt.time }).transmit

/-- The order of the line checks (R170): a kind other than COMMAND, then a payload above 1,024 bytes, then a frame that ends
early, then the CRC. -/
def Obligations.LineCheckOrder : Prop :=
  ∀ (kind tag code : Byte) (n : Nat) (rest : List Byte), n < 65536 →
    let bs := [kind, tag, code] ++ leBytes 2 n ++ rest
    (kind ≠ 1 → checkLineFrame bs = .error .kind) ∧
    (kind = 1 → 1024 < n → checkLineFrame bs = .error .size) ∧
    (kind = 1 → n ≤ 1024 → rest.length < n + 4 → checkLineFrame bs = .error .length) ∧
    (kind = 1 → n ≤ 1024 → n + 4 ≤ rest.length → crcMatches bs (5 + n) = false → checkLineFrame bs = .error .crc) ∧
    (kind = 1 → n ≤ 1024 → n + 4 ≤ rest.length → crcMatches bs (5 + n) = true →
      checkLineFrame bs = .ok (code, tag, rest.take n))

/-! ### The Length Tracker -/

/-- WHEEL_COUNT where the live coordinate does not move (R26 to R29). The pair after (a, b) in forward travel is (not b, a)
with PHASE_A_LEADS, and the reverse with PHASE_B_LEADS. A missed state gives no count; a reverse count adds to the debt; a
forward count pays debt, or is held in the limit condition, or adds the scale to the residue. -/
def Obligations.WheelCountHoldsTheCoordinate : Prop :=
  ∀ s : State, s.Drained →
    let a := s.lt.phA
    let b := s.lt.phB
    let lead := s.lt.geom.dir = .phaseALeads
    let fwd := if lead then (!b, a) else (b, !a)
    let rev := if lead then (b, !a) else (!b, a)
    exec (.wheelCount a b) s = .next s.transmit ∧
    exec (.wheelCount (!a) (!b)) s = .next (s.setLt { s.lt with phA := !a, phB := !b }).transmit ∧
    exec (.wheelCount rev.1 rev.2) s = .next (s.setLt { s.lt with
      phA := rev.1, phB := rev.2, debt := min (s.lt.debt + 1) 65535 }).transmit ∧
    (0 < s.lt.debt → exec (.wheelCount fwd.1 fwd.2) s = .next (s.setLt { s.lt with
      phA := fwd.1, phB := fwd.2, debt := s.lt.debt - 1 }).transmit) ∧
    (s.lt.debt = 0 → s.lt.limit = true → exec (.wheelCount fwd.1 fwd.2) s = .next (s.setLt { s.lt with
      phA := fwd.1, phB := fwd.2 }).transmit) ∧
    (s.lt.debt = 0 → s.lt.limit = false →
      min (s.lt.acc + s.lt.geom.scale) 281474976710655 / 65536 = s.lt.acc / 65536 →
      exec (.wheelCount fwd.1 fwd.2) s = .next (s.setLt { s.lt with
        phA := fwd.1, phB := fwd.2, acc := min (s.lt.acc + s.lt.geom.scale) 281474976710655 }).transmit)

/-- A forward count that moves the live coordinate from L to L' (R28 to R30, R38 to R40, R60): the accumulator and the limit;
the trigger at the highest grid point at or below L', when the conditions of R39 hold, with its sequence number, its
spacing timer and its trigger frame to every head that is not DISABLED; and the next grid point. The trigger's slot is
WAITING for the ACTIVE heads behind WAITING slots; with no ACTIVE head and no slot before it, it retires (R55, R57, R58). -/
def Obligations.WheelCountMovesTheCoordinate : Prop :=
  ∀ (s : State) (a b : Bool), s.Drained → s.lt.debt = 0 → s.lt.limit = false →
    (if s.lt.geom.dir = .phaseALeads then (!s.lt.phB, s.lt.phA) else (s.lt.phB, !s.lt.phA)) = (a, b) →
    let acc := min (s.lt.acc + s.lt.geom.scale) 281474976710655
    let c := acc / 65536
    c ≠ s.lt.acc / 65536 →
    ∃ t, exec (.wheelCount a b) s = .next t ∧
      t.lt.phA = a ∧ t.lt.phB = b ∧ t.lt.acc = acc ∧ t.lt.debt = 0 ∧ t.lt.limit = decide (c = 4294967295) ∧
      t.lt.time = s.lt.time ∧ t.lt.lastTick = s.lt.lastTick ∧ t.lt.history = s.lt.history ∧ t.lt.geom = s.lt.geom ∧
      t.lt.pitch = s.lt.pitch ∧ t.lt.spacing = s.lt.spacing ∧ t.pt.presented = c ∧
      (c = 4294967295 → FlagSet.has t.au.flags .coordLimit = true) ∧
      (∀ pitch g, s.lt.pitch = some pitch → s.lt.nextGrid = some g →
        let reached := g ≤ c
        let issued := reached ∧ (s.cc.engine = .running ∨ s.cc.engine = .halting) ∧ c ≠ 4294967295 ∧
          s.lt.spacingExpiry = none ∧ s.sa.pend.length < 4
        t.lt.nextGrid = (if reached then
            (if (c / pitch + 1) * pitch ≤ 4294967295 then some ((c / pitch + 1) * pitch)
             else if c < 4294967295 then some 4294967295 else none) else some g) ∧
        (issued → t.sa.seq = s.sa.seq + 1 ∧ t.lt.spacingExpiry = s.lt.spacing.map (s.lt.time + ·) ∧
          ∀ h, (t.head h).trigOut =
            if (s.head h).status ≠ .disabled then some { seq := s.sa.seq, coord := c / pitch * pitch }
            else (s.head h).trigOut) ∧
        (issued → (∃ h, (s.head h).status = .active) → (∀ q ∈ s.sa.pend, q.contrib = none) →
          t.sa.pend = s.sa.pend ++ [{
            seq := s.sa.seq, coord := c / pitch * pitch, frames := ⟨none, none, none, none⟩, passed := 0
            expiry := s.lt.time + s.hl.timeout * 1000, contrib := none }]) ∧
        (issued → (∀ h, (s.head h).status ≠ .active) → s.sa.pend = [] →
          t.sa.pend = [] ∧ t.pt.awaited = s.pt.awaited ++ [c / pitch * pitch] ∧ t.ge.handed = s.ge.handed ++ [{
            seq := s.sa.seq, coord := c / pitch * pitch, temp := s.sa.heldTemp, held := true, contrib := 0
            heads := ⟨none, none, none, none⟩ }]) ∧
        (¬ issued → t.sa.seq = s.sa.seq ∧ t.lt.spacingExpiry = s.lt.spacingExpiry ∧
          ∀ h, (t.head h).trigOut = (s.head h).trigOut))

/-- SAMPLE_TICK (R31) and SPACING_TIMER_EXPIRY (R41). At a tick the live coordinate becomes sample 0 and the sample at index 63 is
discarded; the spacing timer stops at its expiry time, which issues no trigger. Exactly this happens when nothing else is
due before. That the rows move the time base is the model's choice (log 3), and that a SPACING_TIMER_EXPIRY with the timer
stopped changes nothing (log 5). -/
def Obligations.TickAndSpacingTimer : Prop :=
  ∀ s : State, s.Drained →
    (∃ t, exec .sampleTick s = .next t ∧ t.lt.history = s.lt.live :: s.lt.history.take 63 ∧
      t.lt.lastTick = s.lt.lastTick + 1000 ∧ t.lt.time = max s.lt.time (s.lt.lastTick + 1000) ∧ t.lt.acc = s.lt.acc ∧
      t.lt.debt = s.lt.debt) ∧
    (s.nextDue (s.lt.lastTick + 1000) = none →
      exec .sampleTick s = .next (s.setLt { s.lt with
        time := max s.lt.time (s.lt.lastTick + 1000), lastTick := s.lt.lastTick + 1000,
        history := s.lt.live :: s.lt.history.take 63 }).transmit) ∧
    (∀ e, s.lt.spacingExpiry = some e →
      (∃ t, exec .spacingTimerExpiry s = .next t ∧ t.lt.spacingExpiry = none ∧ t.lt.time = max s.lt.time e ∧
        t.sa.seq = s.sa.seq ∧ t.lt.acc = s.lt.acc ∧ (∀ h, (t.head h).trigOut = (s.head h).trigOut)) ∧
      (s.nextDue e = none → exec .spacingTimerExpiry s = .next (s.setLt { s.lt with
        time := max s.lt.time e, spacingExpiry := none }).transmit)) ∧
    (s.lt.spacingExpiry = none → exec .spacingTimerExpiry s = .next s.transmit)

/-- Back-dating (R33): with A the time of the latest tick less the event time, A at or below 0 gives sample 0, else the sample
A / 1,000 rounded up, and beyond index 63 sample 63 marked ESTIMATED. -/
def Obligations.LookupOfAnEvent : Prop :=
  ∀ (lt : LengthTracker) (arrival age : Nat),
    let a : Int := lt.lastTick - (arrival - age)
    (a ≤ 0 → lt.lookup arrival age = (lt.history.getD 0 0, false)) ∧
    (∀ i : Nat, 1 ≤ i → i ≤ 63 → (1000 * i - 1000 : Int) < a → a ≤ 1000 * i →
      lt.lookup arrival age = (lt.history.getD i 0, false)) ∧
    (63000 < a → lt.lookup arrival age = (lt.history.getD 63 0, true))

/-- SET_GEOMETRY (R34, R35): refused BUSY in SWITCHING and WRONG_STATE in READY, RUNNING and HALTING; in IDLE refused for the
lowest-numbered field out of range; otherwise all eight fields are replaced. -/
def Obligations.SetGeometry : Prop :=
  ∀ (tag : Byte) (s : State), s.Listening →
    (∀ p : List Byte, p.length = 17 → s.cc.engine = .switching →
      exec (.setGeometry tag p) s = .next (s.replyTo .setGeometry tag p ⟨s, .busy, 0, .summaryOnly⟩)) ∧
    (∀ p : List Byte, p.length = 17 → s.cc.engine.tracks = true →
      exec (.setGeometry tag p) s = .next (s.replyTo .setGeometry tag p ⟨s, .wrongState, 0, .summaryOnly⟩)) ∧
    (∀ (dDie dSaw scale : Nat) (d q0 q1 q2 q3 : Byte), s.cc.engine = .idle →
      dDie < 4294967296 → dSaw < 4294967296 → scale < 4294967296 →
      let p := leBytes 4 dDie ++ leBytes 4 dSaw ++ leBytes 4 scale ++ [d, q0, q1, q2, q3]
      let n := if ¬ (10000 ≤ dDie ∧ dDie ≤ 600000) then 1 else if ¬ dSaw < dDie then 2
        else if ¬ (1 ≤ scale ∧ scale ≤ 16777215) then 3 else if 1 < d.toNat then 4 else if 3 < q0.toNat then 5
        else if 3 < q1.toNat then 6 else if 3 < q2.toNat then 7 else if 3 < q3.toNat then 8 else 0
      (n ≠ 0 → exec (.setGeometry tag p) s =
        .next (s.replyTo .setGeometry tag p ⟨s, .badValue, n, .summaryOnly⟩)) ∧
      (∀ a0 a1 a2 a3 : Fin 4, n = 0 → q0.toNat = a0.val → q1.toNat = a1.val → q2.toNat = a2.val → q3.toNat = a3.val →
        exec (.setGeometry tag p) s = .next (s.replyTo .setGeometry tag p
          ⟨s.setLt { s.lt with geom :=
            { dDie := dDie, dSaw := dSaw, scale := scale, dir := if d = 0 then .phaseALeads else .phaseBLeads,
              quad := ⟨a0, a1, a2, a3⟩ } }, .ok, 0, .summaryOnly⟩)))

/-! ### Heads and sections -/

/-- A section frame without lock is not received (R44). A faulty one (R45, R48, R50): the first check that fails becomes the
last fault kind, and a LOST head's recovery count ends. A good one while no section is pending is stale (R47, R50, R56):
it brings a HUNTING head to ACTIVE; it counts towards a LOST head's recovery when its number is one of the last four
issued since the reset, and ends the run when it is not; an ACTIVE head is left. The frame comes as its symbols at the
receiver's running disparity, behind symbols that belong to no frame (R187, log 9). -/
def Obligations.FaultyOrStaleSectionFrame : Prop :=
  ∀ (s : State) (h : Fin 4) (gap : List Symbol) (bs : List Byte), s.Drained → Rule.noStart gap →
    let run := Rule.framed (s.head h).rxRd gap bs
    let x := { s.head h with rxRd := Rule.heard (s.head h).rxRd run }
    let becomes := fun y : Head => exec (.sectionFrameReceived h run) s = .next (s.putHead h y).transmit
    (x.lock = false → ∀ any, exec (.sectionFrameReceived h any) s = .next s.transmit) ∧
    (∀ f, x.lock = true → checkSectionFrame h bs = .error f →
      becomes { x with fault := f, recov := if x.status = .lost then 0 else x.recov }) ∧
    (∀ g, x.lock = true → checkSectionFrame h bs = .ok g → s.sa.pend = [] →
      let window := ∃ k < min s.sa.issued 4, g.seq = s.sa.seq - 1 - BitVec.ofNat 16 k
      (x.status = .hunting → becomes { x with status := .active, miss := 0, recov := 0 }) ∧
      (x.status = .lost → window → x.recov + 1 < s.hl.recR → becomes { x with recov := x.recov + 1 }) ∧
      (x.status = .lost → window → s.hl.recR ≤ x.recov + 1 →
        becomes { x with status := .active, miss := 0, recov := 0 }) ∧
      (x.status = .lost → ¬ window → becomes { x with recov := 0 }) ∧
      (x.status = .active → becomes x))

/-- A good frame of an ACTIVE head that answers a pending section (R56, R57, R59). It is recorded, and an older WAITING slot
without a frame of the head passes it over. While another ACTIVE head is waited for, the slot stays WAITING. Else the
only slot retires: the section temperature is the rounded mean of the contributing readings, or held, with THERMAL_HOLD
at a run of 200 (R61); the section is handed with each contributing head's points and calibration; ACTIVE heads without
a frame miss it, and at M misses become LOST with HEAD_LOST (R49, R50). The frame comes as its symbols (R187, log 9). -/
def Obligations.SectionFramePlaced : Prop :=
  ∀ (s : State) (h : Fin 4) (gap : List Symbol) (bs : List Byte) (g : GoodFrame) (p : PendSlot), s.Drained →
    Rule.noStart gap → (s.head h).lock = true → checkSectionFrame h bs = .ok g → (s.head h).status = .active → p.seq = g.seq →
    p.contrib = none → p.frames.get h = none →
    let run := Rule.framed (s.head h).rxRd gap bs
    let u := s.putHead h { s.head h with rxRd := Rule.heard (s.head h).rxRd run }
    let p' := { p with frames := p.frames.put h (some g.frame) }
    let waits := fun (q : PendSlot) => ∃ k, k ≠ h ∧ (s.head k).status = .active ∧ q.frames.get k = none ∧
      HeadSet.has q.passed k = false
    (s.sa.pend = [p] → waits p →
      exec (.sectionFrameReceived h run) s = .next (u.setSa { s.sa with pend := [p'] }).transmit) ∧
    (∀ q, s.sa.pend = [q, p] → q.seq ≠ g.seq → q.contrib = none → q.frames.get h = none → waits q → waits p →
      exec (.sectionFrameReceived h run) s = .next (u.setSa { s.sa with
        pend := [{ q with passed := q.passed ||| BitVec.ofNat 4 (2 ^ h.val) }, p'] }).transmit) ∧
    (s.sa.pend = [p] → ¬ waits p →
      let frame := fun k : Fin 4 => if (s.head k).status = .active then p'.frames.get k else none
      let temps := [0, 1, 2, 3].filterMap fun k : Fin 4 => (frame k).bind SecFrame.temp
      let mean := (2 * temps.sum + temps.length) / (2 * temps.length)
      let temp := if temps = [] then s.sa.heldTemp else mean
      let unread := if temps = [] then min (s.sa.noReading + 1) 65535 else 0
      let missed := fun k : Fin 4 => (s.head k).status = .active ∧ p'.frames.get k = none
      ∃ t, exec (.sectionFrameReceived h run) s = .next t ∧
        t.sa = { s.sa with pend := [], heldTemp := temp, noReading := unread } ∧
        t.ge.handed = s.ge.handed ++ [{
          seq := p.seq, coord := p.coord, temp := temp, held := decide (temps = [])
          contrib := headSet fun k => (frame k).isSome
          heads := perHead fun k => (frame k).map fun f =>
            { points := f.points, ox := (s.head k).ox, oy := (s.head k).oy, scale := (s.head k).scale } }] ∧
        t.pt.awaited = s.pt.awaited ++ [p.coord] ∧ t.lt = s.lt ∧
        (∀ k, t.head k =
          if missed k then
            (if (u.head k).miss + 1 < s.hl.lostM then { u.head k with miss := (u.head k).miss + 1 }
             else { u.head k with status := .lost, miss := 0, recov := 0 })
          else if (u.head k).status = .active then { u.head k with miss := 0 }
          else if (u.head k).status = .lost ∧ p'.frames.get k = none then { u.head k with recov := 0 }
          else u.head k) ∧
        ((∃ k, missed k ∧ s.hl.lostM ≤ (s.head k).miss + 1) → FlagSet.has t.au.flags .headLost = true) ∧
        (temps = [] → unread = 200 → FlagSet.has t.au.flags .thermalHold = true))

/-- HEAD_LOCK_LOSS, HEAD_SYMBOL_ERROR and HEAD_LOCK_GAIN (R44, R48): at a loss of lock, and at a symbol error inside a frame that
is not yet whole, an ACTIVE or LOST head goes to HUNTING with its counts at 0 and HEAD_SYNC is raised; a HUNTING head keeps
its state; the last fault kind is LOCK or SYMBOL. Without lock, and for symbols between frames, nothing else changes. The
receiver of an enabled head holds lock again at a gain; that of a DISABLED head is off. Every symbol is judged at the
receiver's running disparity and moves it (R187); the disparity after an error and at a gain is free (log 37). What the
rows carry is log 9; that a frame with a point count above 960 ends at that count is the model's choice (log 44). -/
def Obligations.HeadLinkLockAndSymbols : Prop :=
  ∀ (s : State) (h : Fin 4), s.Drained →
    let x := s.head h
    let rd := x.rxRd
    let unended := fun bs : List Byte => bs.length < 7 ∨ (natAt bs 5 2 ≤ 960 ∧ bs.length < 11 + 9 * natAt bs 5 2)
    let down := fun (i : Instr) (run : List Symbol) =>
      let y := { x with fault := .symbol, rxRd := Rule.heard rd run }
      ((x.status = .active ∨ x.status = .lost) →
        ∃ t, exec i s = .next t ∧ FlagSet.has t.au.flags .headSync = true ∧ t.lt = s.lt ∧
          t.head h = { y with status := .hunting, miss := 0, recov := 0 }) ∧
      (x.status = .hunting → exec i s = .next (s.putHead h y).transmit)
    (x.lock = true → (x.status = .active ∨ x.status = .lost) →
      ∃ t, exec (.headLockLoss h) s = .next t ∧ FlagSet.has t.au.flags .headSync = true ∧ t.lt = s.lt ∧
        t.head h = { x with status := .hunting, miss := 0, recov := 0, fault := .lock, lock := false }) ∧
    (x.lock = true → x.status = .hunting →
      exec (.headLockLoss h) s = .next (s.putHead h { x with fault := .lock, lock := false }).transmit) ∧
    (∀ gap bs bad rest run sym, x.lock = true → Rule.noStart gap → Rule.noStart rest → unended bs →
      isSymbolError (Rule.heard rd (Rule.framed rd gap bs)) bad = true →
      run ++ [sym] = Rule.framed rd gap bs ++ bad :: rest →
      down (.sectionFrameReceived h (run ++ [sym])) (run ++ [sym]) ∧
      down (.headSymbolError h false run sym) (run ++ [sym])) ∧
    (∀ bs bad rest run sym, x.lock = true → Rule.noStart rest → unended bs →
      isSymbolError (Rule.heard rd (encodeBytes rd bs)) bad = true → run ++ [sym] = encodeBytes rd bs ++ bad :: rest →
      down (.headSymbolError h true run sym) (run ++ [sym])) ∧
    (∀ run sym, x.lock = true → Rule.noStart (run ++ [sym]) →
      exec (.sectionFrameReceived h run) s =
        .next (s.putHead h { x with rxRd := Rule.heard rd run }).transmit ∧
      exec (.headSymbolError h false run sym) s =
        .next (s.putHead h { x with rxRd := Rule.heard rd (run ++ [sym]) }).transmit) ∧
    (x.lock = false → exec (.headLockLoss h) s = .next s.transmit ∧
      ∀ inFrame run sym, exec (.headSymbolError h inFrame run sym) s = .next s.transmit) ∧
    (x.status ≠ .disabled → exec (.headLockGain h) s = .next (s.putHead h { x with
      lock := true, rxRd := Config.disparityAtLock h.val s.lt.time }).transmit) ∧
    (x.status = .disabled → exec (.headLockGain h) s = .next s.transmit)

/-- ASSEMBLY_TIMEOUT_EXPIRY (R57 to R59) with nothing due before it: a slot behind a WAITING one becomes COMPLETE, its
contributing heads fixed as the ACTIVE heads whose frame it holds; the oldest slot retires and is handed on; a COMPLETE
slot has no timeout. That the row moves the time base is the model's choice (log 3), and that it changes nothing when no
slot of its number is WAITING (log 5). -/
def Obligations.AssemblyTimeout : Prop :=
  ∀ (s : State) (p : PendSlot), s.Drained → p.contrib = none → s.nextDue p.expiry = none →
    let contrib := headSet fun h => (s.head h).isActive && (p.frames.get h).isSome
    (∀ older younger, s.sa.pend = older ++ p :: younger → older ≠ [] → (∀ q ∈ older, q.contrib = none) →
      (∀ q ∈ older ++ younger, q.seq ≠ p.seq) →
      exec (.assemblyTimeoutExpiry p.seq) s = .next ((s.setLt { s.lt with time := max s.lt.time p.expiry }).setSa
        { s.sa with pend := older ++ { p with contrib := some contrib } :: younger }).transmit) ∧
    (∀ younger, s.sa.pend = p :: younger → (∀ q ∈ younger, q.seq ≠ p.seq) →
      ∃ t x more, exec (.assemblyTimeoutExpiry p.seq) s = .next t ∧ t.ge.handed = s.ge.handed ++ x :: more ∧
        x.seq = p.seq ∧ x.coord = p.coord ∧ x.contrib = contrib ∧ t.lt.time = max s.lt.time p.expiry ∧
        ∃ gone, younger.map PendSlot.seq = gone ++ t.sa.pend.map PendSlot.seq) ∧
    (∀ n, (∀ q ∈ s.sa.pend, q.seq = n → q.contrib.isSome = true) →
      exec (.assemblyTimeoutExpiry n) s = .next s.transmit)

/-- SET_HEADS (R51, R52): refused BUSY in SWITCHING, else for the lowest-numbered setting out of range; otherwise the settings
are replaced, a newly enabled head hunts with its counts and last fault cleared, a newly disabled one is off, and the
others are left; every WAITING slot is then tested, once for all four heads, which is the model's choice (log 41). The
replies carry the head items (R54, log 13). -/
def Obligations.SetHeads : Prop :=
  ∀ (tag e tmo m r : Byte) (s : State), s.Listening →
    let n := if 15 < e.toNat then 1 else if tmo.toNat = 0 then 2 else if ¬ (1 ≤ m.toNat ∧ m.toNat ≤ 64) then 3
      else if ¬ (1 ≤ r.toNat ∧ r.toNat ≤ 64) then 4 else 0
    (s.cc.engine = .switching → exec (.setHeads tag [e, tmo, m, r]) s =
      .next (s.replyTo .setHeads tag [e, tmo, m, r] ⟨s, .busy, 0, .heads (Rule.headItems s)⟩)) ∧
    (s.cc.engine ≠ .switching → n ≠ 0 → exec (.setHeads tag [e, tmo, m, r]) s =
      .next (s.replyTo .setHeads tag [e, tmo, m, r] ⟨s, .badValue, n, .heads (Rule.headItems s)⟩)) ∧
    (s.cc.engine ≠ .switching → n = 0 →
      let after := fun h : Fin 4 =>
        let x := s.head h
        if e.getLsbD h.val then
          (if x.status = .disabled then { x with status := .hunting, miss := 0, recov := 0, fault := .clear } else x)
        else if x.status = .disabled then x
        else { x with status := .disabled, miss := 0, recov := 0, lock := false }
      let u := s.setHl { timeout := tmo.toNat, lostM := m.toNat, recR := r.toNat, heads := perHead after }
      exec (.setHeads tag [e, tmo, m, r]) s = .next (s.replyTo .setHeads tag [e, tmo, m, r]
        ⟨u.settleSections, .ok, 0, .heads (Rule.headItems u.settleSections)⟩))

/-- SET_HEAD_CAL (R53): refused BUSY in SWITCHING, else for the lowest-numbered field out of range; otherwise the head's ox, oy
and s are replaced. -/
def Obligations.SetHeadCal : Prop :=
  ∀ (tag head : Byte) (ox oy scale : Int) (s : State), s.Listening →
    -2147483648 ≤ ox → ox < 2147483648 → -2147483648 ≤ oy → oy < 2147483648 → -32768 ≤ scale → scale < 32768 →
    let p := [head] ++ leIntBytes 4 ox ++ leIntBytes 4 oy ++ leIntBytes 2 scale
    let n := if 3 < head.toNat then 1 else if 1000000 < ox.natAbs then 2 else if 1000000 < oy.natAbs then 3
      else if 2000 < scale.natAbs then 4 else 0
    (s.cc.engine = .switching → exec (.setHeadCal tag p) s =
      .next (s.replyTo .setHeadCal tag p ⟨s, .busy, 0, .heads (Rule.headItems s)⟩)) ∧
    (s.cc.engine ≠ .switching → n ≠ 0 → exec (.setHeadCal tag p) s =
      .next (s.replyTo .setHeadCal tag p ⟨s, .badValue, n, .heads (Rule.headItems s)⟩)) ∧
    (∀ h : Fin 4, s.cc.engine ≠ .switching → n = 0 → head.toNat = h.val →
      let u := s.putHead h { s.head h with ox := ox, oy := oy, scale := scale }
      exec (.setHeadCal tag p) s = .next (s.replyTo .setHeadCal tag p ⟨u, .ok, 0, .heads (Rule.headItems u)⟩))

/-- A section frame laid out as 11.2 says, with points in strictly ascending u and in range, passes every check and is read as
it was laid out (R45, R183). The checks of R45 in their order, each with its fault: a point count above 960, a frame that
ends early, the CRC, another head ID, points not in strictly ascending u, a point out of range. That a frame ending
before its point count fails LENGTH is DEDUCED (log 20). -/
def Obligations.SectionFrameReadBack : Prop :=
  (∀ (h : Fin 4) (bs : List Byte), bs.length < 7 → checkSectionFrame h bs = .error .length) ∧
  (∀ (h : Fin 4) (id : Byte) (seq temp n : Nat) (rest : List Byte), seq < 65536 → temp < 65536 → n < 65536 →
    let bs := [id] ++ leBytes 2 seq ++ leBytes 2 temp ++ leBytes 2 n ++ rest
    let pts := (List.range n).map fun k => (
      { u := intAt rest (9 * k) 4, w := natAt rest (9 * k + 4) 4, quality := natAt rest (9 * k + 8) 1 } : Point)
    let long := 9 * n + 4 ≤ rest.length
    let crc := crcMatches bs (7 + 9 * n) = true
    let ascending := pts.Pairwise fun a b => a.u < b.u
    let inRange := ∀ p ∈ pts, -200000 ≤ p.u ∧ p.u ≤ 200000 ∧ p.w ≤ 500000
    (960 < n → checkSectionFrame h bs = .error .count) ∧
    (n ≤ 960 → ¬ long → checkSectionFrame h bs = .error .length) ∧
    (n ≤ 960 → long → ¬ crc → checkSectionFrame h bs = .error .crc) ∧
    (n ≤ 960 → long → crc → id.toNat ≠ h.val → checkSectionFrame h bs = .error .headId) ∧
    (n ≤ 960 → long → crc → id.toNat = h.val → ¬ ascending → checkSectionFrame h bs = .error .order) ∧
    (n ≤ 960 → long → crc → id.toNat = h.val → ascending → ¬ inRange → checkSectionFrame h bs = .error .range) ∧
    (n ≤ 960 → long → crc → id.toNat = h.val → ascending → inRange → checkSectionFrame h bs = .ok {
      seq := BitVec.ofNat 16 seq, frame := { temp := if temp = 65535 then none else some (min temp 7000), points := pts } })) ∧
  ∀ (h : Fin 4) (seq : Seq) (temp : Nat) (pts : List Point), temp < 65536 → pts.length ≤ 960 →
    pts.Pairwise (fun a b => a.u < b.u) →
    (∀ p ∈ pts, -200000 ≤ p.u ∧ p.u ≤ 200000 ∧ p.w ≤ 500000 ∧ p.quality ≤ 255) →
    checkSectionFrame h (withCrc (leBytes 1 h.val ++ leBytes 2 seq.toNat ++ leBytes 2 temp ++ leBytes 2 pts.length ++
      pts.flatMap fun p => leIntBytes 4 p.u ++ leBytes 4 p.w ++ leBytes 1 p.quality)) =
      .ok { seq := seq, frame := { temp := if temp = 65535 then none else some (min temp 7000), points := pts } }

/-! ### Measuring -/

/-- SECTION_EVALUATION (R65, R82): the oldest handed section is evaluated under the compiled copy, one entry for each enabled
gauge in ascending order of index, and its result is passed to the Piece Tracker. With no section handed nothing is
evaluated (the model's choice, log 5). -/
def Obligations.SectionEvaluated : Prop :=
  ∀ s : State, s.Drained →
    (∀ sec rest c, s.ge.handed = sec :: rest → s.ge.compiled = some c →
      exec .sectionEvaluation s = .next ((s.setGe { s.ge with handed := rest }).setPt { s.pt with
        results := s.pt.results ++ [{
          seq := sec.seq, coord := sec.coord, temp := sec.temp, held := sec.held, contrib := sec.contrib,
          gauges := (c.gauges.zipIdx.filter fun x => x.1.enabledByte != 0).map fun x =>
            gaugeEntry c sec x.2 x.1 }] }).transmit) ∧
    (s.ge.handed = [] → exec .sectionEvaluation s = .next s.transmit)

/-- One gauge entry (R74 to R81). A gauge with an invalid probe is NOT_GAUGED. Otherwise the hot value, a distance or a
difference from the datum, is divided by the expansion and rounded half away from zero; the cold value and the
deviation are clamped, each clamp setting the saturated flag; and the class is the first row of R81 that holds. -/
def Obligations.GaugeEntryFormed : Prop :=
  ∀ (c : Compiled) (sec : Handed) (i : Nat) (g : GaugeRec), c.expansion ≤ 5000 → c.tRef ≤ 400 →
    -99999 ≤ g.tolLo → g.tolLo ≤ 0 → 0 ≤ g.tolHi → g.tolHi ≤ 99999 →
    let a := coordOfProbe c sec g.a
    let b := g.b.bind (coordOfProbe c sec)
    let span := g.kind = .spanX ∨ g.kind = .spanY
    ((a = none ∨ span ∧ b = none) →
      gaugeEntry c sec i g = { idx := i, cold := none, dev := none, cls := .notGauged, saturated := false }) ∧
    ∀ x hot : Int, a = some x → (span → ∃ y, b = some y ∧ hot = if x < y then y - x else x - y) →
      (¬ span → hot = x - g.datum) →
      let d : Int := 1000000000 + c.expansion * ((sec.temp : Int) - c.tRef)
      let size : Int := (2 * hot.natAbs * 1000000000 + d) / (2 * d)
      let raw : Int := if hot < 0 then -size else size
      let cold := if span then min raw 999999 else max (-999999) (min raw 999999)
      let dev := max (-999999) (min (cold - g.nominal) 999999)
      let wl : Int := -(((g.tolLo.natAbs * g.warn / 100 : Nat) : Int))
      let wh : Int := ((g.tolHi.natAbs * g.warn / 100 : Nat) : Int)
      gaugeEntry c sec i g =
        { idx := i, cold := some cold, dev := some dev,
          cls := if dev < g.tolLo then .outLo else if g.tolHi < dev then .outHi else if dev < wl then .warnLo
            else if wh < dev then .warnHi else .inTol
          saturated := decide (cold ≠ raw ∨ dev ≠ cold - g.nominal) }

/-- The section coordinate of a probe (R66 to R73): none when its head does not contribute, when a SURFACE probe has fewer valid
points than its minimum, and when no two adjacent valid points of an EDGE probe differ by its step threshold; else the
mean range or the midpoint of the first such pair in the search direction, scaled and posed by the head's quadrant. -/
def Obligations.ProbeCoordinateFormed : Prop :=
  ∀ (c : Compiled) (sec : Handed) (p : CompiledProbe) (hd : HeadData), sec.heads.get p.probe.head = some hd →
    let pts := hd.points.filter fun q => decide (c.minQuality ≤ q.quality ∧ p.probe.uLo ≤ q.u ∧ q.u ≤ p.probe.uHi ∧
      p.probe.wLo ≤ q.w ∧ q.w ≤ p.probe.wHi)
    let sum := (pts.map Point.w).sum
    let scale := fun v : Int => v + (if v * hd.scale < 0 then -((2 * (v * hd.scale).natAbs + 1000000) / 2000000 : Nat)
      else ((2 * (v * hd.scale).natAbs + 1000000) / 2000000 : Nat) : Int)
    let pose := fun v : Int => match p.quad, p.probe.kind with
      | 0, .edge => hd.ox + v | 1, .edge => hd.oy + v | 2, .edge => hd.ox - v | 3, .edge => hd.oy - v
      | 0, .surface => hd.oy - v | 1, .surface => hd.ox + v | 2, .surface => hd.oy + v | 3, .surface => hd.ox - v
    (HeadSet.has sec.contrib p.probe.head = false → probeCoord c sec p = none) ∧
    (HeadSet.has sec.contrib p.probe.head = true → p.probe.kind = .surface → 1 ≤ p.probe.minPts →
      (pts.length < p.probe.minPts → probeCoord c sec p = none) ∧
      (p.probe.minPts ≤ pts.length →
        probeCoord c sec p = some (pose (scale ((2 * sum + pts.length) / (2 * pts.length) : Nat))))) ∧
    (HeadSet.has sec.contrib p.probe.head = true → p.probe.kind = .edge →
      let walk := if p.probe.dir = 1 then pts.reverse else pts
      let jump := fun k : Nat => ∃ m n, walk[k]? = some m ∧ walk[k + 1]? = some n ∧
        (m.w + p.probe.step ≤ n.w ∨ n.w + p.probe.step ≤ m.w)
      ((∀ k, ¬ jump k) → probeCoord c sec p = none) ∧
      (∀ k m n, jump k → (∀ j < k, ¬ jump j) → walk[k]? = some m → walk[k + 1]? = some n →
        probeCoord c sec p = some (pose (scale ((m.u + n.u).fdiv 2)))))

/-! ### Bins, pieces and the switch -/

/-- SECTION_APPLICATION (R106, R113, R122, R125, R167): with no result waiting nothing is applied (log 5); the settled coordinate
advances to the section and then to its new target; and where there is nothing to advance over, the section is counted
into the current bin, HEAD_GAP is set on the piece when a referenced head is missing, the burst counter moves, and
every Nth result is placed in the trace buffer. The advance (R104, R105, R153): the items on the way are applied one
coordinate after another, the least first; and a match coordinate reached disarms the match and raises MATCH, at an
advance that stops exactly there too (log 39). -/
def Obligations.SectionApplied : Prop :=
  ∀ s : State, s.Drained →
    (s.pt.results = [] → exec .sectionApplication s = .next s.transmit) ∧
    (∀ r rest p, s.pt.results = r :: rest → s.pt.piece = some p →
      let target := (s.sa.pend.head?.map PendSlot.coord).toList.foldl min
        ((s.pt.awaited.drop 1).head?.toList.foldl min s.pt.presented)
      ∃ t, exec .sectionApplication s = .next t ∧ t.pt.results = rest ∧ t.pt.awaited = s.pt.awaited.drop 1 ∧
        t.pt.settled = max s.pt.settled (max r.coord target) ∧ t.lt = s.lt ∧ t.sa = s.sa ∧ t.hl = s.hl) ∧
    (∀ r rest p, s.pt.results = r :: rest → s.pt.piece = some p → r.coord ≤ s.pt.settled →
      s.pt.presented ≤ s.pt.settled →
      let cur : Bin := { p.cur with
        sections := min (p.cur.sections + 1) 65535
        notGauged := if ∃ e ∈ r.gauges, e.cls = .notGauged then min (p.cur.notGauged + 1) 65535 else p.cur.notGauged
        tMin := some (p.cur.tMin.toList.foldl min r.temp)
        tMax := some (p.cur.tMax.toList.foldl max r.temp)
        gauges := p.cur.gauges.map (countGauge r.gauges) }
      let gap := ∃ h, (s.ge.compiled.any fun c => HeadSet.has c.referenced h && !HeadSet.has r.contrib h) = true
      let out := ∃ e ∈ r.gauges, e.cls = .outLo ∨ e.cls = .outHi
      let paused := FlagSet.has s.au.flags .burst = true ∨ s.openTags &&& s.params.policy ≠ 0
      let limit := s.params.burstLimit
      let burst := if limit = 0 then 0 else if paused then s.pt.burst else if out then s.pt.burst + 1 else 0
      let lp := if s.lp.traceN = 0 then s.lp
        else if s.lp.decim + 1 < s.lp.traceN then { s.lp with decim := s.lp.decim + 1 }
        else { s.lp with
          decim := 0
          traceBuf := some {
            seq := r.seq, coord := r.coord, temp := r.temp, held := r.held, piece := p.number,
            gauges := r.gauges.map fun e => { idx := e.idx, cold := e.cold, cls := e.cls } }
          replaced := if s.lp.traceBuf = none then s.lp.replaced else min (s.lp.replaced + 1) 255 }
      let u := (s.setPt { s.pt with
        results := rest, awaited := s.pt.awaited.drop 1, burst := burst,
        piece := some { p with cur := cur, flags := if gap then p.flags ||| 16 else p.flags } }).setLp lp
      exec .sectionApplication s = .next
        (if limit ≠ 0 ∧ ¬ paused ∧ out ∧ limit ≤ s.pt.burst + 1 then u.raise .burst else u).transmit) ∧
    (∀ p c, s.pt.piece = some p → s.pt.settled < c →
      let item := fun y : Nat => s.pk.stopZone = some y ∨ s.pk.weldZone = some y ∨ s.pt.frontCrop = some y ∨
        (∃ m ∈ s.pk.queue, m.start = y) ∨ (p.bounded = true ∧ p.cur.stop = y)
      let reached := ∃ k, s.au.matchAt = some k ∧ s.pt.settled < k ∧ k ≤ c
      ((∀ y, item y → y ≤ s.pt.settled ∨ c < y) →
        let u := s.setPt { s.pt with settled := c }
        (reached → s.advanceTo c = (u.setAu { s.au with matchAt := none }).raise .coordMatch) ∧
        (¬ reached → s.advanceTo c = u)) ∧
      (∀ y, item y → s.pt.settled < y → y ≤ c → (∀ z, item z → z ≤ s.pt.settled ∨ y ≤ z) → s.au.matchAt = none →
        let u := s.applyAt y
        s.advanceTo c = (u.setPt { u.pt with settled := y }).advanceTo c) ∧
      (reached → (s.advanceTo c).au.matchAt = none ∧ FlagSet.has (s.advanceTo c).au.flags .coordMatch = true) ∧
      (¬ reached → (s.advanceTo c).au.matchAt = s.au.matchAt))

/-- One gauge of a bin after a section (R113): a NOT_GAUGED gauge leaves it; else the worst class is the higher one, and the worst
deviation the one of greater magnitude, the earlier on equal magnitudes. -/
def Obligations.WorstOfAGauge : Prop :=
  ∀ (entries : List GaugeEntry) (g : BinGauge) (e : GaugeEntry),
    entries.find? (fun x => x.idx == g.idx) = some e →
    (e.cls = .notGauged → countGauge entries g = g) ∧
    (∀ dev, e.cls ≠ .notGauged → e.dev = some dev →
      (countGauge entries g).worst =
        (if g.worst = .out ∨ e.cls = .outLo ∨ e.cls = .outHi then .out
         else if g.worst = .warn ∨ e.cls = .warnLo ∨ e.cls = .warnHi then .warn else .inTol) ∧
      (countGauge entries g).dev = some (match g.dev with
        | none => dev
        | some d => if d.natAbs < dev.natAbs then dev else d))

/-- The items at one coordinate (R105, R99): the zones whose close point it is close, the CUT marks there are applied (R118), then
the end of the current bin, then the STOP and WELD marks (R107); the marks leave the queue. A bin boundary at E (R114,
R115, R120, R132): the bin closes with the gauge billet and the verdict of the first row that holds, and ends a halt;
with fewer than 256 bins a new bin opens from the pool, or with an empty pool the bin is coalesced, raising
POOL_EXHAUSTED once in an episode; a piece of 256 bins closes with reason SPLIT and a CONTINUED piece opens, its bin 0
tagged by the open zones. A current bin's billet is the model's choice (log 38). -/
def Obligations.BoundaryApplied : Prop :=
  (∀ (s : State) (p : Piece) (e : Nat), s.pt.piece = some p →
    let par := s.params
    let done := { p.cur with billet := s.pk.gaugeBillet, verdict := some (Rule.verdict par p.cur) }
    let u := Rule.haltEnded s
    (p.closed.length < 255 → s.pt.free ≠ 0 → s.applyBoundary e = u.setPt { s.pt with
      free := s.pt.free - 1, episode := false
      piece := some { p with
        closed := p.closed ++ [done], bounded := decide (e + par.binLen ≤ 4294967295)
        cur := Rule.opened s (p.closed.length + 1) e (Rule.openTags s) } }) ∧
    (p.closed.length < 255 → s.pt.free = 0 →
      s.applyBoundary e = (if s.pt.episode then u else u.raise .poolExhausted).setPt { s.pt with
        episode := true
        piece := some { p with
          flags := p.flags ||| 8, bounded := decide (e + par.binLen ≤ 4294967295)
          cur := { done with stop := min (e + par.binLen) 4294967295, verdict := none, coalesced := true } } }) ∧
    (255 ≤ p.closed.length → p.cur.start < e →
      let v := Rule.haltEnded (Rule.pieceClosed s p .split e)
      let w := if v.pt.free = 0 then Rule.dropped v else v
      s.applyBoundary e = w.setPt { w.pt with
        nextPiece := if s.pt.nextPiece < 65535 then s.pt.nextPiece + 1 else 1, free := w.pt.free - 1, episode := false
        piece := some {
          number := s.pt.nextPiece, start := e, flags := 1, closed := [], cur := Rule.opened s 0 e (Rule.openTags s)
          bounded := decide (e + par.binLen ≤ 4294967295) } })) ∧
  ∀ (s : State) (y : Nat) (here later : List Mark), s.pk.queue = here ++ later → (∀ m ∈ here, m.start ≤ y) →
    (∀ m ∈ later, y < m.start) →
    let flagged := fun (est : Bool) (u : State) => if est then
      u.setPt { u.pt with piece := u.pt.piece.map fun p => { p with flags := p.flags ||| 4 } } else u
    let cut := fun (u : State) (m : Mark) =>
      flagged m.est (((flagged m.est u).closePiece .cut y).openPiece y false)
    let bound := fun u : State => match u.pt.piece with
      | some p => if p.bounded = true ∧ p.cur.stop = y then u.applyBoundary y else u
      | none => u
    let u := Rule.zonesClosed s y
    s.applyAt y = (here.filter fun m => m.kind != .cut).foldl (Rule.zoneMark y)
      (bound ((here.filter fun m => m.kind == .cut).foldl cut (u.setPk { u.pk with queue := later })))

/-- COMPILATION_COMPLETE (R64, R137, R138): the compiled copy of the active slot, the outcome by the ACTIVE heads, READY, the
grid of the slot's record, an open piece, and SWITCH_DONE; nothing when no compilation runs (log 5). -/
def Obligations.CompilationCompleted : Prop :=
  ∀ s : State, s.Drained →
    (s.cc.engine ≠ .switching → exec .compilationComplete s = .next s.transmit) ∧
    (∀ i par, s.cc.engine = .switching → s.cc.active = some i → (s.dieSlot i).params = some par →
      let c : Compiled := {
        minQuality := par.minQuality, expansion := par.expansion, tRef := par.tRef,
        probes := (s.dieSlot i).probes.map fun r => { probe := r, quad := s.lt.geom.quad.get r.head },
        gauges := (s.dieSlot i).gauges }
      let missing := fun h => HeadSet.has c.referenced h = true ∧ (s.head h).status ≠ .active
      ∃ t, exec .compilationComplete s = .next t ∧ t.ge.compiled = some c ∧ t.cc.engine = .ready ∧
        t.cc.compileBy = none ∧ t.cc.active = some i ∧ t.cc.outcome.slot = s.cc.outcome.slot ∧
        t.cc.outcome.die = s.cc.outcome.die ∧ t.cc.outcome.reverted = s.cc.outcome.reverted ∧
        (∀ h, HeadSet.has t.cc.outcome.missing h = true ↔ missing h) ∧
        ((∀ h, ¬ missing h) → t.cc.outcome.kind = .clean) ∧ ((∃ h, missing h) → t.cc.outcome.kind = .degraded) ∧
        t.lt.pitch = some par.pitch ∧ t.lt.spacing = some par.spacing ∧ t.lt.acc = s.lt.acc ∧
        (0 < par.pitch → s.lt.live + par.pitch ≤ 4294967295 →
          t.lt.nextGrid = some ((s.lt.live / par.pitch + 1) * par.pitch)) ∧
        t.pt.piece.isSome = true ∧ FlagSet.has t.au.flags .switchDone = true)

/-- A piece opens at `p` (R110, R112, R116): an empty pool makes the oldest report drop (R158); the piece takes the next number
and a record; a piece that is not CONTINUED opens the front-crop zone, and a SPLIT leaves it; bin 0 has the tags of the
open zones, with FRONT_CROP for a zone of length 0 too (R108, log 27), and an entry for each enabled gauge. A piece
closes (R111, R117, R122, R157, R158): the current bin closes, or is removed when it would be empty beside another; a
CUT lays the back crop; the report joins the queue, a full queue dropping its oldest; removed records return to the
pool; and a close other than DIE_END ends a halt (R132). -/
def Obligations.PieceOpened : Prop :=
  (∀ (s : State) (p : Nat) (continued : Bool),
    let par := s.params
    let close := min (p + par.frontCrop) 4294967295
    let v := if s.pt.free = 0 then Rule.dropped s else s
    let w := v.setPt { v.pt with
      frontCrop := if continued then s.pt.frontCrop else if p < close then some close else none }
    let crop : ZoneSet := if continued = true ∨ par.frontCrop = 0 then 0 else 4
    s.openPiece p continued = w.setPt { w.pt with
      nextPiece := if s.pt.nextPiece < 65535 then s.pt.nextPiece + 1 else 1, free := v.pt.free - 1, episode := false
      piece := some {
        number := s.pt.nextPiece, start := p, flags := if continued then 1 else 0, closed := []
        cur := Rule.opened s 0 p (Rule.openTags w ||| crop), bounded := decide (p + par.binLen ≤ 4294967295) } }) ∧
  ∀ (s : State) (reason : CloseReason) (e : Nat) (p : Piece), s.pt.piece = some p →
    let u := Rule.pieceClosed s p reason e
    s.closePiece reason e = if reason = .dieEnd then u else Rule.haltEnded u

/-! ### The commands of the Context Controller -/

/-- START and HALT by engine state (R130, R131). In RUNNING a piece is open (PoolSound). -/
def Obligations.StartAndHalt : Prop :=
  ∀ (tag : Byte) (s : State), s.Listening →
    exec (.start tag []) s = .next (s.replyTo .start tag [] (match s.cc.engine with
      | .idle => ⟨s, .wrongState, 0, .summaryOnly⟩
      | .switching => ⟨s, .busy, 0, .summaryOnly⟩
      | .ready | .halting => ⟨s.setCc { s.cc with engine := .running, haltBin := none }, .ok, 0, .summaryOnly⟩
      | .running => ⟨s, .noEffect, 0, .summaryOnly⟩)) ∧
    (∀ p, (s.cc.engine = .running → s.pt.piece = some p) →
      exec (.halt tag []) s = .next (s.replyTo .halt tag [] (match s.cc.engine with
        | .idle => ⟨s, .wrongState, 0, .summaryOnly⟩
        | .switching => ⟨s, .busy, 0, .summaryOnly⟩
        | .running => ⟨s.setCc { s.cc with
            engine := .halting, haltBin := some { piece := p.number, bin := p.cur.index } }, .ok, 0, .summaryOnly⟩
        | .ready | .halting => ⟨s, .noEffect, 0, .summaryOnly⟩)))

/-- The nine slot commands, with a payload of the required length, refuse a slot number above 7 before any other check (R8). -/
def Obligations.SlotNumberRefused : Prop :=
  ∀ (c : Command) (tag n : Byte) (p : List Byte) (s : State), s.Listening → 7 < n.toNat →
    c ∈ [Command.openSlot, .writeParams, .writeProbesFirst, .writeProbesNext, .writeGaugesFirst, .writeGaugesNext,
      .sealSlot, .eraseSlot, .querySlot] → lengthOk c (n :: p) = true →
    exec (commandRow c tag (n :: p)) s =
      .next (s.replyTo c tag (n :: p) ⟨s, .badValue, 0, .summaryOnly⟩)

/-- OPEN_SLOT, ERASE_SLOT and QUERY_SLOT on slot i (R9, R20, R21, R2): the generation, of 16 bits, increments at each accepted
opening and erasure. -/
def Obligations.SlotOpenedErasedQueried : Prop :=
  ∀ (tag : Byte) (i : Fin 8) (s : State), s.Listening →
    let d := s.dieSlot i
    let p : List Byte := [BitVec.ofNat 8 i.val]
    exec (.openSlot tag p) s = .next (s.replyTo .openSlot tag p
      (if d.busy then ⟨s, .busy, 0, .summaryOnly⟩ else match d.state with
        | .loading => ⟨s, .noEffect, 0, .summaryOnly⟩
        | .empty | .sealed => ⟨s.putSlot i { d with
            state := .loading, gen := d.gen + 1, digest := none, probePtr := 0, gaugePtr := 0 }, .ok, 0, .summaryOnly⟩)) ∧
    exec (.eraseSlot tag p) s = .next (s.replyTo .eraseSlot tag p
      (if d.busy then ⟨s, .busy, 0, .summaryOnly⟩ else match d.state with
        | .empty => ⟨s, .noEffect, 0, .summaryOnly⟩
        | .loading | .sealed => ⟨s.putSlot i {
            state := .empty, gen := d.gen + 1, busy := false, link := none, params := none, probes := [],
            probePtr := 0, gauges := [], gaugePtr := 0, digest := none }, .ok, 0, .summaryOnly⟩)) ∧
    exec (.querySlot tag p) s = .next (s.replyTo .querySlot tag p ⟨s, .ok, 0, .slot {
      state := d.state, gen := d.gen, busy := d.busy, link := d.link, paramsWritten := d.params.isSome,
      probesWritten := d.probes.length, probePtr := d.probePtr, gaugesWritten := d.gauges.length,
      gaugePtr := d.gaugePtr, digest := d.digest }⟩)

/-- WRITE_PARAMS on slot i (R4, R11, R185): refused BUSY, WRONG_STATE, or BAD_VALUE with the number of the lowest-numbered field
out of range, a policy byte above 15 among them; otherwise the record is stored whole. -/
def Obligations.ParamsWritten : Prop :=
  ∀ (tag : Byte) (i : Fin 8) (r : Params) (policy : Byte) (s : State), s.Listening →
    r.echo < 65536 → r.pitch < 65536 → r.spacing < 65536 → r.binLen < 65536 → r.frontCrop < 65536 →
    r.backCrop < 65536 → r.stopHalf < 65536 → r.weldLead < 4294967296 → r.weldLen < 4294967296 →
    r.expansion < 65536 → r.tRef < 65536 → r.tDef < 65536 → r.minQuality < 256 → r.ungaugedLimit < 256 →
    r.burstLimit < 256 →
    let d := s.dieSlot i
    let p : List Byte := BitVec.ofNat 8 i.val :: r.bytes.set 29 policy
    let n := if ¬ (10 ≤ r.pitch ∧ r.pitch ≤ 1000) then 2 else if ¬ (250 ≤ r.spacing ∧ r.spacing ≤ 10000) then 3
      else if ¬ (100 ≤ r.binLen ∧ r.binLen ≤ 10000) then 4 else if 50000 < r.frontCrop then 5
      else if 50000 < r.backCrop then 6 else if 5000 < r.stopHalf then 7 else if 100000 < r.weldLead then 8
      else if 200000 < r.weldLen then 9 else if 5000 < r.expansion then 10 else if 400 < r.tRef then 11
      else if 7000 < r.tDef then 12 else if r.minQuality = 0 then 13 else if 15 < policy.toNat then 14
      else if 100 < r.ungaugedLimit then 15 else 0
    exec (.writeParams tag p) s = .next (s.replyTo .writeParams tag p
      (if d.busy then ⟨s, .busy, 0, .summaryOnly⟩
       else if d.state ≠ .loading then ⟨s, .wrongState, 0, .summaryOnly⟩
       else if n ≠ 0 then ⟨s, .badValue, n, .summaryOnly⟩
       else ⟨s.putSlot i { d with params := some { r with policy := BitVec.ofNat 4 policy.toNat } }, .ok, 0, .summaryOnly⟩))

/-- WRITE_PROBES_FIRST and WRITE_PROBES_NEXT of 1 to 16 records on slot i (R6, R10, R12, R14, R185): refused BUSY, WRONG_STATE,
TABLE_OVERRUN, or BAD_VALUE with the index of the first invalid record; otherwise written from index 0 or from the write
pointer, the records above keeping their places. A record whose kind, head or axis code names none is invalid whatever
else it holds. -/
def Obligations.ProbesWritten : Prop :=
  ∀ (tag : Byte) (i : Fin 8) (rs : List ProbeRec) (s : State), s.Listening → 1 ≤ rs.length → rs.length ≤ 16 →
    (∀ r ∈ rs, -2147483648 ≤ r.uLo ∧ r.uLo < 2147483648 ∧ -2147483648 ≤ r.uHi ∧ r.uHi < 2147483648 ∧
      r.wLo < 4294967296 ∧ r.wHi < 4294967296 ∧ r.step < 4294967296 ∧ r.minPts < 256) →
    let d := s.dieSlot i
    let p : List Byte := BitVec.ofNat 8 i.val :: BitVec.ofNat 8 (rs.length % 16) :: rs.flatMap ProbeRec.bytes
    let ok := fun r : ProbeRec => -200000 ≤ r.uLo ∧ r.uLo < r.uHi ∧ r.uHi ≤ 200000 ∧ r.wLo < r.wHi ∧ r.wHi ≤ 500000 ∧
      (r.kind = .edge → r.dir.toNat ≤ 1 ∧ 1 ≤ r.step ∧ r.step ≤ 100000) ∧
      (r.kind = .surface → 1 ≤ r.minPts ∧ r.minPts ≤ 64)
    let answer := fun start : Nat =>
      if d.busy then (⟨s, .busy, 0, .summaryOnly⟩ : Answer)
      else if d.state ≠ .loading then ⟨s, .wrongState, 0, .summaryOnly⟩
      else if 64 < start + rs.length then ⟨s, .tableOverrun, 0, .summaryOnly⟩
      else match rs.findIdx? (fun r => decide (¬ ok r)) with
        | some k => ⟨s, .badValue, start + k, .summaryOnly⟩
        | none =>
          let probes := d.probes.take start ++ rs ++ d.probes.drop (start + rs.length)
          ⟨s.putSlot i { d with probes := probes, probePtr := start + rs.length }, .ok, 0,
            .tableWrite (start + rs.length) probes.length⟩
    exec (.writeProbesFirst tag p) s = .next (s.replyTo .writeProbesFirst tag p (answer 0)) ∧
    exec (.writeProbesNext tag p) s = .next (s.replyTo .writeProbesNext tag p (answer d.probePtr)) ∧
    ∀ (k : Nat) (rec : List Byte), rec.length = 25 → k ≤ rs.length → k ≤ 15 → (∀ r ∈ rs.take k, ok r) →
      d.busy = false → d.state = .loading →
      (1 < (rec.getD 0 0).toNat ∨ 3 < (rec.getD 1 0).toNat ∨ 1 < (rec.getD 24 0).toNat) →
      let q : List Byte :=
        BitVec.ofNat 8 i.val :: BitVec.ofNat 8 ((k + 1) % 16) :: ((rs.take k).flatMap ProbeRec.bytes ++ rec)
      exec (.writeProbesFirst tag q) s =
        .next (s.replyTo .writeProbesFirst tag q ⟨s, .badValue, k, .summaryOnly⟩) ∧
      (d.probePtr + k + 1 ≤ 64 → exec (.writeProbesNext tag q) s =
        .next (s.replyTo .writeProbesNext tag q ⟨s, .badValue, d.probePtr + k, .summaryOnly⟩))

/-- WRITE_GAUGES_FIRST and WRITE_GAUGES_NEXT of 1 to 16 records on slot i (R7, R10, R13, R14, R185): as for probes, with a table of
32 records and the ranges of R7; a kind code above 3 is invalid. -/
def Obligations.GaugesWritten : Prop :=
  ∀ (tag : Byte) (i : Fin 8) (rs : List GaugeRec) (s : State), s.Listening → 1 ≤ rs.length → rs.length ≤ 16 →
    (∀ r ∈ rs, r.a < 256 ∧ (∀ b ∈ r.b, b < 255) ∧ -2147483648 ≤ r.datum ∧ r.datum < 2147483648 ∧
      -2147483648 ≤ r.nominal ∧ r.nominal < 2147483648 ∧ -2147483648 ≤ r.tolLo ∧ r.tolLo < 2147483648 ∧
      -2147483648 ≤ r.tolHi ∧ r.tolHi < 2147483648 ∧ r.warn < 256) →
    let d := s.dieSlot i
    let p : List Byte := BitVec.ofNat 8 i.val :: BitVec.ofNat 8 (rs.length % 16) :: rs.flatMap GaugeRec.bytes
    let ok := fun r : GaugeRec => r.a ≤ 63 ∧ (r.b.all fun b => decide (b ≤ 63)) = true ∧
      (if r.kind = .spanX ∨ r.kind = .spanY then 1 ≤ r.nominal else r.datum.natAbs ≤ 999999 ∧ -999999 ≤ r.nominal) ∧
      r.nominal ≤ 999999 ∧ -99999 ≤ r.tolLo ∧ r.tolLo ≤ 0 ∧ 0 ≤ r.tolHi ∧ r.tolHi ≤ 99999 ∧ 50 ≤ r.warn ∧ r.warn ≤ 100
    let answer := fun start : Nat =>
      if d.busy then (⟨s, .busy, 0, .summaryOnly⟩ : Answer)
      else if d.state ≠ .loading then ⟨s, .wrongState, 0, .summaryOnly⟩
      else if 32 < start + rs.length then ⟨s, .tableOverrun, 0, .summaryOnly⟩
      else match rs.findIdx? (fun r => decide (¬ ok r)) with
        | some k => ⟨s, .badValue, start + k, .summaryOnly⟩
        | none =>
          let gauges := d.gauges.take start ++ rs ++ d.gauges.drop (start + rs.length)
          ⟨s.putSlot i { d with gauges := gauges, gaugePtr := start + rs.length }, .ok, 0,
            .tableWrite (start + rs.length) gauges.length⟩
    exec (.writeGaugesFirst tag p) s = .next (s.replyTo .writeGaugesFirst tag p (answer 0)) ∧
    exec (.writeGaugesNext tag p) s = .next (s.replyTo .writeGaugesNext tag p (answer d.gaugePtr)) ∧
    ∀ (k : Nat) (rec : List Byte), rec.length = 21 → k ≤ rs.length → k ≤ 15 → (∀ r ∈ rs.take k, ok r) →
      d.busy = false → d.state = .loading →
      3 < (rec.getD 1 0).toNat →
      let q : List Byte :=
        BitVec.ofNat 8 i.val :: BitVec.ofNat 8 ((k + 1) % 16) :: ((rs.take k).flatMap GaugeRec.bytes ++ rec)
      exec (.writeGaugesFirst tag q) s =
        .next (s.replyTo .writeGaugesFirst tag q ⟨s, .badValue, k, .summaryOnly⟩) ∧
      (d.gaugePtr + k + 1 ≤ 32 → exec (.writeGaugesNext tag q) s =
        .next (s.replyTo .writeGaugesNext tag q ⟨s, .badValue, d.gaugePtr + k, .summaryOnly⟩))

/-- SEAL_SLOT on slot i (R15 to R19): by slot state; a LOADING slot is refused for the first check of the six that fails, with the
index of the first record that fails it; otherwise it becomes SEALED with the CRC-32 of its records as they were sent. That
a gauge's enabled byte enters the digest as it was sent, not as 0 or 1, is DEDUCED (log 30); that a reply of NO_EFFECT carries
the status summary alone is the model's choice (log 40). -/
def Obligations.SlotSealed : Prop :=
  ∀ (tag : Byte) (i : Fin 8) (s : State), s.Listening →
    let d := s.dieSlot i
    let p : List Byte := [BitVec.ofNat 8 i.val]
    let uses := fun g : GaugeRec => g.a :: g.b.toList
    let span := fun g : GaugeRec => decide (g.kind = .spanX ∨ g.kind = .spanY)
    let wants := fun g : GaugeRec => if g.kind = .spanX ∨ g.kind = .posX then Axis.x else Axis.y
    let even := fun r : ProbeRec => decide (s.lt.geom.quad.get r.head = 0 ∨ s.lt.geom.quad.get r.head = 2)
    let gives := fun r : ProbeRec => if even r = decide (r.kind = .edge) then Axis.x else Axis.y
    let missing := d.gauges.findIdx? fun g => (uses g).any fun k => decide (d.probes.length ≤ k)
    let wrongAxis := d.gauges.findIdx? fun g => (uses g).any fun k => (d.probes[k]?).any fun r => r.axis != wants g
    let wrongB := d.gauges.findIdx? fun g => g.b.isSome != span g
    let wrongPose := d.probes.findIdx? fun r => r.axis != gives r
    let failed : Option (Nat × Nat) :=
      if d.params = none then some (1, 0)
      else if d.gauges.all (fun g => g.enabledByte == 0) then some (2, 0)
      else match missing, wrongAxis, wrongB, wrongPose with
        | some k, _, _, _ => some (3, k)
        | none, some k, _, _ => some (4, k)
        | none, none, some k, _ => some (5, k)
        | none, none, none, some k => some (6, k)
        | none, none, none, none => none
    (d.state = .empty → exec (.sealSlot tag p) s = .next (s.replyTo .sealSlot tag p ⟨s, .wrongState, 0, .summaryOnly⟩)) ∧
    (d.state = .sealed → exec (.sealSlot tag p) s = .next (s.replyTo .sealSlot tag p ⟨s, .noEffect, 0, .summaryOnly⟩)) ∧
    (∀ c k, d.state = .loading → failed = some (c, k) → exec (.sealSlot tag p) s =
      .next (s.replyTo .sealSlot tag p ⟨s, .sealCheck, k, .checkFailed c k⟩)) ∧
    (∀ par, d.state = .loading → failed = none → d.params = some par →
      let digest := crc32 (par.bytes ++ d.probes.flatMap ProbeRec.bytes ++ d.gauges.flatMap GaugeRec.bytes)
      exec (.sealSlot tag p) s = .next (s.replyTo .sealSlot tag p
        ⟨s.putSlot i { d with state := .sealed, digest := some digest }, .ok, 0, .sealed digest⟩))

/-- MAP_DIE and UNMAP_DIE (R24, R25). -/
def Obligations.DieMappedUnmapped : Prop :=
  ∀ (tag slot en : Byte) (die : Nat) (s : State), s.Listening → die < 65536 →
    let dir := s.cc.dir
    let known := ∃ e ∈ dir, e.die = die
    let new : DirEntry := { die := die, slot := Fin.ofNat 8 slot.toNat, enabled := decide (en ≠ 0) }
    let replaced := dir.map fun e => if e.die = die then new else e
    let removed := dir.filter fun e => decide (e.die ≠ die)
    let p := leBytes 2 die ++ [slot, en]
    exec (.mapDie tag p) s = .next (s.replyTo .mapDie tag p
      (if die = 0 then ⟨s, .badValue, 1, .summaryOnly⟩
       else if 7 < slot.toNat then ⟨s, .badValue, 2, .summaryOnly⟩
       else if known then ⟨s.setCc { s.cc with dir := replaced }, .ok, 0, .entries dir.length⟩
       else if dir.length < 32 then ⟨s.setCc { s.cc with dir := dir ++ [new] }, .ok, 0, .entries (dir.length + 1)⟩
       else ⟨s, .tableOverrun, 0, .summaryOnly⟩)) ∧
    exec (.unmapDie tag (leBytes 2 die)) s = .next (s.replyTo .unmapDie tag (leBytes 2 die)
      (if die = 0 then ⟨s, .badValue, 1, .summaryOnly⟩
       else if known then ⟨s.setCc { s.cc with dir := removed }, .ok, 0, .entries removed.length⟩
       else ⟨s, .noEffect, 0, .entries dir.length⟩))

/-- DIE_CHANGE (R100, R121, R133 to R136): the six checks in order, each raising SWITCH_FAILED, changing nothing else and answered
with its number and detail index; otherwise every block does its part of the commit. An open piece closes first, with
reason DIE_END at the settled coordinate, its report appended with the slot and die ID that were active (R117, R121). That
the commit notes a completion at 2,000 µs after it is the model's choice (log 15); R137 gives the bound. -/
def Obligations.DieChanged : Prop :=
  ∀ (tag : Byte) (die : Nat) (s : State), s.Listening → die < 65536 →
    let p := leBytes 2 die
    let failed := fun (check : Nat) (code : ResultCode) (k : Nat) =>
      exec (.dieChange tag p) s = .next (s.replyTo .dieChange tag p
        ⟨s.raise .switchFailed, code, k, .checkFailed check k⟩)
    let bad := fun r : ProbeRec => (s.head r.head).status = .disabled ∨
      r.axis ≠ (if decide (s.lt.geom.quad.get r.head = 0 ∨ s.lt.geom.quad.get r.head = 2) = decide (r.kind = .edge)
        then Axis.x else Axis.y)
    (s.cc.engine = .switching → failed 1 .busy 0) ∧
    (s.cc.engine ≠ .switching → s.pk.state = .pushing → failed 2 .wrongState 0) ∧
    (s.cc.engine ≠ .switching → s.pk.state ≠ .pushing →
      ((∀ e ∈ s.cc.dir, e.die = die → e.enabled = false) → failed 3 .noContext 0) ∧
      ∀ e, s.cc.dir.find? (fun x => x.die == die && x.enabled) = some e →
        let d := s.dieSlot e.slot
        (d.state ≠ .sealed → failed 4 .noContext 0) ∧
        (d.state = .sealed → d.busy = true → failed 5 .alreadyActive 0) ∧
        (∀ k, d.state = .sealed → d.busy = false → d.probes.findIdx? (fun r => decide (bad r)) = some k →
          failed 6 .headUnavailable k) ∧
        (d.state = .sealed → d.busy = false → (∀ r ∈ d.probes, ¬ bad r) →
          let link := s.cc.active.map fun i => { slot := i, gen := (s.dieSlot i).gen : SlotLink }
          ∃ u, exec (.dieChange tag p) s = .next (s.replyTo .dieChange tag p
              ⟨u, .accepted, 0, .switched e.slot s.cc.active link⟩) ∧
            u.dieSlot e.slot = { d with busy := true, link := link } ∧
            (∀ j, j ≠ e.slot → u.dieSlot j =
              if s.cc.active = some j then { s.dieSlot j with busy := false } else s.dieSlot j) ∧
            u.cc.engine = .switching ∧ u.cc.active = some e.slot ∧ u.cc.activeDie = some die ∧
            u.cc.activation[e.slot] = some die ∧ (∀ j, j ≠ e.slot → u.cc.activation[j] = s.cc.activation[j]) ∧
            u.cc.dir = s.cc.dir ∧ u.cc.haltBin = none ∧
            u.cc.outcome = { kind := .pending, slot := some e.slot, die := some die, reverted := false, missing := 0 } ∧
            u.lt = { s.lt with
              acc := 0, debt := 0, limit := false, history := List.replicate 64 0, pitch := none, spacing := none,
              nextGrid := some 0, spacingExpiry := none } ∧
            u.hl = s.hl ∧ u.ge = { compiled := none, handed := [] } ∧
            u.sa = { s.sa with pend := [], heldTemp := d.record.tDef, noReading := 0 } ∧
            u.pk = { s.pk with gaugeBillet := 0, stopRec := none, queue := [], stopZone := none, weldZone := none } ∧
            u.cc.compileBy = some (s.lt.time + 2000) ∧ u.lp = { s.lp with decim := 0 } ∧
            let v := match s.pt.piece with
              | some x => Rule.pieceClosed s x .dieEnd s.pt.settled
              | none => s
            u.rq = v.rq ∧ u.au = { v.au with matchAt := none } ∧
            u.pt = {
              settled := 0, presented := 0, awaited := [], results := [], piece := none, free := v.pt.free
              frontCrop := none, nextPiece := s.pt.nextPiece, burst := 0, episode := false } ∧
            (∀ x i, s.pt.piece = some x → s.cc.active = some i → ∃ r, u.rq.reports.getLast? = some r ∧
              r.number = x.number ∧ r.slot = i.val ∧ r.die = s.cc.activeDie.getD 0 ∧ r.reason = .dieEnd ∧
              r.start = x.start ∧ r.stop = s.pt.settled ∧ r.flags = x.flags)))

/-- REVERT (R141, R142): the five checks in order, each raising SWITCH_FAILED; otherwise the commit of a switch back to the linked
slot, under its activation die ID, with the link of the slot left removed and the target's link kept; the rest of the
commit is as for DIE_CHANGE, the noted completion at 2,000 µs (R137), which is the model's choice (log 15), included. -/
def Obligations.SwitchReverted : Prop :=
  ∀ (tag : Byte) (s : State), s.Listening →
    let failed := fun (check : Nat) (code : ResultCode) (k : Nat) =>
      exec (.revert tag []) s = .next (s.replyTo .revert tag []
        ⟨s.raise .switchFailed, code, k, .checkFailed check k⟩)
    let bad := fun r : ProbeRec => (s.head r.head).status = .disabled ∨
      r.axis ≠ (if decide (s.lt.geom.quad.get r.head = 0 ∨ s.lt.geom.quad.get r.head = 2) = decide (r.kind = .edge)
        then Axis.x else Axis.y)
    (s.cc.engine = .switching → failed 1 .busy 0) ∧
    (s.cc.engine = .idle → failed 2 .noLink 0) ∧
    ∀ i, s.cc.engine.tracks = true → s.cc.active = some i →
      ((s.dieSlot i).link = none → failed 2 .noLink 0) ∧
      ∀ l, (s.dieSlot i).link = some l →
        let d := s.dieSlot l.slot
        let die := s.cc.activation[l.slot]
        (s.pk.state = .pushing → failed 3 .wrongState 0) ∧
        (s.pk.state ≠ .pushing → (d.state ≠ .sealed ∨ d.gen ≠ l.gen) → failed 4 .staleLink 0) ∧
        (∀ k, s.pk.state ≠ .pushing → d.state = .sealed → d.gen = l.gen →
          d.probes.findIdx? (fun r => decide (bad r)) = some k → failed 5 .headUnavailable k) ∧
        (s.pk.state ≠ .pushing → d.state = .sealed → d.gen = l.gen → (∀ r ∈ d.probes, ¬ bad r) →
          ∃ u, exec (.revert tag []) s = .next (s.replyTo .revert tag []
              ⟨u, .accepted, 0, .switched l.slot (some i) d.link⟩) ∧
            u.dieSlot l.slot = { d with busy := true } ∧
            (i ≠ l.slot → u.dieSlot i = { s.dieSlot i with busy := false, link := none }) ∧
            (∀ j, j ≠ i → j ≠ l.slot → u.dieSlot j = s.dieSlot j) ∧
            u.cc.engine = .switching ∧ u.cc.active = some l.slot ∧ u.cc.activeDie = die ∧
            u.cc.activation = s.cc.activation ∧ u.cc.dir = s.cc.dir ∧ u.cc.haltBin = none ∧
            u.cc.outcome = { kind := .pending, slot := some l.slot, die := die, reverted := true, missing := 0 } ∧
            u.lt = { s.lt with
              acc := 0, debt := 0, limit := false, history := List.replicate 64 0, pitch := none, spacing := none,
              nextGrid := some 0, spacingExpiry := none } ∧
            u.hl = s.hl ∧ u.ge = { compiled := none, handed := [] } ∧
            u.sa = { s.sa with pend := [], heldTemp := d.record.tDef, noReading := 0 } ∧
            u.pk = { s.pk with gaugeBillet := 0, stopRec := none, queue := [], stopZone := none, weldZone := none } ∧
            u.cc.compileBy = some (s.lt.time + 2000) ∧ u.lp = { s.lp with decim := 0 } ∧
            let v := match s.pt.piece with
              | some x => Rule.pieceClosed s x .dieEnd s.pt.settled
              | none => s
            u.rq = v.rq ∧ u.au = { v.au with matchAt := none } ∧
            u.pt = {
              settled := 0, presented := 0, awaited := [], results := [], piece := none, free := v.pt.free
              frontCrop := none, nextPiece := s.pt.nextPiece, burst := 0, episode := false } ∧
            (∀ x, s.pt.piece = some x → ∃ r, u.rq.reports.getLast? = some r ∧
              r.number = x.number ∧ r.slot = i.val ∧ r.die = s.cc.activeDie.getD 0 ∧ r.reason = .dieEnd ∧
              r.start = x.start ∧ r.stop = s.pt.settled ∧ r.flags = x.flags))

/-! ### Press notices -/

/-- NOTE_RAM_STOP (R85 to R88, R94 to R98, R102): by engine state, and in READY, RUNNING and HALTING by press state. The stop record
is set and a STOP mark about the die coordinate is built; it is inserted in order, lost with MARK_OVERFLOW when the
queue is full, or, at or below the settled coordinate, applied there to the current bin with MARK_LATE. -/
def Obligations.RamStopNoted : Prop :=
  ∀ (tag : Byte) (age : Nat) (s : State), s.Listening → age < 65536 →
    let p := leBytes 2 age
    let look := s.lt.lookup s.lt.time age
    let die := min (look.1 + s.lt.geom.dDie) 4294967295
    let half := s.params.stopHalf
    let m : Mark := {
      kind := .stop, start := die - half, stop := min (die + half) 4294967295, billet := none, est := look.2 }
    let k : PressTracker := { s.pk with state := .stopped, stopRec := some { coord := die, est := look.2 } }
    let items := fun d : Disposition => Items.notice {
      looked := some look.1, est := look.2, formed := some die, disposition := d, mark := if d = .noMark then none else some m }
    let idle := Items.notice { looked := none, est := false, formed := none, disposition := .noMark, mark := none }
    let answers := fun a : Answer => exec (.noteRamStop tag p) s = .next (s.replyTo .noteRamStop tag p a)
    (s.cc.engine = .switching → answers ⟨s, .busy, 0, .summaryOnly⟩) ∧
    (s.cc.engine = .idle → s.pk.state = .stopped → answers ⟨s, .noEffect, 0, idle⟩) ∧
    (s.cc.engine = .idle → s.pk.state ≠ .stopped → answers ⟨s.setPk { s.pk with state := .stopped }, .ok, 0, idle⟩) ∧
    (s.cc.engine.tracks = true → s.pk.state = .stopped → answers ⟨s, .noEffect, 0, items .noMark⟩) ∧
    (s.cc.engine.tracks = true → s.pk.state ≠ .stopped →
      (s.pt.settled < m.start → s.pk.queue.length < 16 → answers ⟨s.setPk { k with
        queue := s.pk.queue.takeWhile (fun q => decide (q.start ≤ m.start)) ++
          m :: s.pk.queue.dropWhile (fun q => decide (q.start ≤ m.start)) }, .ok, 0, items .queued⟩) ∧
      (s.pt.settled < m.start → 16 ≤ s.pk.queue.length →
        answers ⟨(s.setPk k).raise .markOverflow, .queueFull, 0, items .lost⟩) ∧
      (∀ x, m.start ≤ s.pt.settled → s.pt.piece = some x →
        let close := min (m.stop + 1) 4294967295
        let zone := if close ≤ s.pt.settled then s.pk.stopZone else some (max (s.pk.stopZone.getD 0) close)
        let late := { x with
          flags := if look.2 then x.flags ||| 2 ||| 4 else x.flags ||| 2, cur := { x.cur with tags := x.cur.tags ||| 1 } }
        answers ⟨((s.raise .markLate).setPk { k with stopZone := zone }).setPt { s.pt with piece := some late }, .ok, 0,
          items .appliedLate⟩))

/-- NOTE_RAM_START (R85, R89 to R91, R94 to R98, R102): refused BUSY in SWITCHING and WRONG_STATE in PUSHING; otherwise the press
pushes the billet; a new billet after a stop gives a WELD mark behind the stop record, ordered, lost or late as any
mark; the billet alone is taken after UNKNOWN or for the billet that stopped. -/
def Obligations.RamStartNoted : Prop :=
  ∀ (tag : Byte) (age billet : Nat) (s : State), s.Listening → age < 65536 → billet < 65536 →
    let p := leBytes 2 age ++ leBytes 2 billet
    let look := s.lt.lookup s.lt.time age
    let die := min (look.1 + s.lt.geom.dDie) 4294967295
    let items := fun (d : Disposition) (m : Option Mark) => Items.notice {
      looked := some look.1, est := look.2, formed := some die, disposition := d, mark := m }
    let idle := Items.notice { looked := none, est := false, formed := none, disposition := .noMark, mark := none }
    let answers := fun a : Answer => exec (.noteRamStart tag p) s = .next (s.replyTo .noteRamStart tag p a)
    let k : PressTracker := { s.pk with state := .pushing, billet := billet }
    (s.cc.engine = .switching → answers ⟨s, .busy, 0, .summaryOnly⟩) ∧
    (s.cc.engine ≠ .switching → s.pk.state = .pushing → answers ⟨s, .wrongState, 0, .summaryOnly⟩) ∧
    (s.cc.engine = .idle → s.pk.state ≠ .pushing → answers ⟨s.setPk k, .ok, 0, idle⟩) ∧
    (s.cc.engine.tracks = true → s.pk.state ≠ .pushing → (s.pk.stopRec = none ∨ s.pk.state = .unknown) →
      answers ⟨s.setPk { k with gaugeBillet := if s.pk.stopRec = none then billet else s.pk.gaugeBillet }, .ok, 0,
        items .noMark none⟩) ∧
    (∀ r, s.cc.engine.tracks = true → s.pk.state = .stopped → s.pk.stopRec = some r →
      let par := s.params
      let m : Mark := {
        kind := .weld, start := min (r.coord + par.weldLead) 4294967295,
        stop := min (r.coord + par.weldLead + par.weldLen) 4294967295, billet := some billet, est := r.est }
      (billet = s.pk.billet → answers ⟨s.setPk k, .ok, 0, items .noMark none⟩) ∧
      (billet ≠ s.pk.billet → s.pt.settled < m.start → s.pk.queue.length < 16 → answers ⟨s.setPk { k with
        queue := s.pk.queue.takeWhile (fun q => decide (q.start ≤ m.start)) ++
          m :: s.pk.queue.dropWhile (fun q => decide (q.start ≤ m.start)) }, .ok, 0, items .queued (some m)⟩) ∧
      (billet ≠ s.pk.billet → s.pt.settled < m.start → 16 ≤ s.pk.queue.length →
        answers ⟨(s.setPk k).raise .markOverflow, .queueFull, 0, items .lost (some m)⟩) ∧
      (∀ x, billet ≠ s.pk.billet → m.start ≤ s.pt.settled → s.pt.piece = some x →
        let zone := if m.stop ≤ s.pt.settled then s.pk.weldZone else some (max (s.pk.weldZone.getD 0) m.stop)
        let late := { x with
          flags := if r.est then x.flags ||| 2 ||| 4 else x.flags ||| 2, cur := { x.cur with tags := x.cur.tags ||| 2 } }
        answers ⟨((s.raise .markLate).setPk { k with weldZone := zone, gaugeBillet := billet }).setPt
          { s.pt with piece := some late }, .ok, 0, items .appliedLate (some m)⟩))

/-- NOTE_CUT (R85, R86, R92 to R97, R102, R119): by engine state; a CUT mark at the saw coordinate above the settled coordinate is a
duplicate, lost, or inserted in order; at or below it, it is dropped at or below the open piece's start, and else applied
late with MARK_LATE: the bins of the open piece at or above it fold into the last bin below, the piece closes there with
reason CUT, LATE_MARK, its back crop and its report, and a piece opens there and is walked up to the settled coordinate;
the last clause says this where the walk meets no bin boundary. The new current bin's billet of 0 is the model's choice
(log 38), and the tag of a front crop that the last coordinate cuts to length 0 is DEDUCED (log 27). -/
def Obligations.CutNoted : Prop :=
  ∀ (tag : Byte) (age : Nat) (s : State), s.Listening → age < 65536 →
    let p := leBytes 2 age
    let look := s.lt.lookup s.lt.time age
    let saw := min (look.1 + s.lt.geom.dSaw) 4294967295
    let m : Mark := { kind := .cut, start := saw, stop := saw, billet := none, est := look.2 }
    let items := fun d : Disposition => Items.notice {
      looked := some look.1, est := look.2, formed := some saw, disposition := d, mark := some m }
    let idle := Items.notice { looked := none, est := false, formed := none, disposition := .noMark, mark := none }
    let answers := fun a : Answer => exec (.noteCut tag p) s = .next (s.replyTo .noteCut tag p a)
    let twin := ∃ q ∈ s.pk.queue, q.kind = .cut ∧ q.start = saw
    (s.cc.engine = .switching → answers ⟨s, .busy, 0, .summaryOnly⟩) ∧
    (s.cc.engine = .idle → answers ⟨s, .noEffect, 0, idle⟩) ∧
    (s.cc.engine.tracks = true →
      (s.pt.settled < saw → twin → answers ⟨s, .noEffect, 0, items .duplicate⟩) ∧
      (s.pt.settled < saw → ¬ twin → 16 ≤ s.pk.queue.length →
        answers ⟨s.raise .markOverflow, .queueFull, 0, items .lost⟩) ∧
      (s.pt.settled < saw → ¬ twin → s.pk.queue.length < 16 → answers ⟨s.setPk { s.pk with
        queue := s.pk.queue.takeWhile (fun q => decide (q.start ≤ saw)) ++
          m :: s.pk.queue.dropWhile (fun q => decide (q.start ≤ saw)) }, .ok, 0, items .queued⟩) ∧
      (∀ x, saw ≤ s.pt.settled → s.pt.piece = some x → saw ≤ x.start → answers ⟨s, .noEffect, 0, items .dropped⟩) ∧
      (∀ x, saw ≤ s.pt.settled → s.pt.piece = some x → x.start < saw →
        ∃ u, answers ⟨u, .ok, 0, items .appliedLate⟩ ∧ FlagSet.has u.au.flags .markLate = true ∧
          FlagSet.has u.au.flags .pieceReady = true ∧ u.pt.piece.isSome = true ∧ u.pt.settled = s.pt.settled ∧
          u.lt = s.lt ∧ u.cc.engine = (if s.cc.engine = .halting then .ready else s.cc.engine)) ∧
      (∀ x below last gone, saw ≤ s.pt.settled → s.pt.piece = some x → x.start < saw → s.MarksSound →
        x.closed ++ [x.cur] = below ++ last :: gone → (∀ b ∈ below, b.start < saw) → last.start < saw →
        (∀ b ∈ gone, saw ≤ b.start) →
        let est : PieceFlags := if look.2 then 4 else 0
        let y : Piece := { x with
          flags := x.flags ||| 2 ||| est, closed := below
          cur := gone.foldl Rule.folded { last with verdict := none } }
        let r := Rule.report s y .cut saw
        let close := min (saw + s.params.frontCrop) 4294967295
        x.foldAt saw = { y with flags := x.flags } ∧
        r.bins = (below ++ [Rule.closed s y.cur saw]).map (Rule.cropped s.params saw) ∧
        (s.pt.free ≠ 0 → s.pt.settled < saw + s.params.binLen →
          ∃ u, answers ⟨u, .ok, 0, items .appliedLate⟩ ∧
            u.rq.reports = (if s.rq.reports.length < 6 then s.rq.reports else s.rq.reports.drop 1) ++ [r] ∧
            u.pt.frontCrop = (if s.pt.settled < close then some close else none) ∧
            u.pt.nextPiece = (if s.pt.nextPiece < 65535 then s.pt.nextPiece + 1 else 1) ∧
            u.pt.piece = some {
              number := s.pt.nextPiece, start := saw, flags := est, closed := []
              bounded := decide (saw + s.params.binLen ≤ 4294967295)
              cur := Rule.opened s 0 saw ((if s.pk.stopZone = none then 0 else 1) |||
                (if s.pk.weldZone = none then 0 else 2) ||| (if s.params.frontCrop = 0 then 0 else 4)) })))

/-! ### Reports, traces, alerts -/

/-- FETCH_FIRST, FETCH_NEXT and SET_FETCH_POINTER (R160 to R163, R186): EMPTY without a report; otherwise the bins from index 0 or
from the pointer, at most 16 and at most what 976 bytes hold, and the pointer behind them; at the end of the report
FETCH_NEXT is answered NO_EFFECT and leaves the pointer. That SET_FETCH_POINTER answered EMPTY carries the status summary
alone, and answered BAD_VALUE its items, is the model's choice (log 13). -/
def Obligations.ReportsFetched : Prop :=
  ∀ (tag : Byte) (index : Nat) (s : State), s.Listening → index < 65536 →
    let p := leBytes 2 index
    (s.rq.reports = [] →
      exec (.fetchFirst tag []) s = .next (s.replyTo .fetchFirst tag [] ⟨s, .empty, 0, .summaryOnly⟩) ∧
      exec (.fetchNext tag []) s = .next (s.replyTo .fetchNext tag [] ⟨s, .empty, 0, .summaryOnly⟩) ∧
      exec (.setFetchPointer tag p) s = .next (s.replyTo .setFetchPointer tag p ⟨s, .empty, 0, .summaryOnly⟩)) ∧
    ∀ r rest b more, s.rq.reports = r :: rest → r.bins = b :: more →
      let g := b.gauges.length
      let fetched := fun k : Nat => (r.bins.drop k).take (min 16 (976 / (22 + 6 * g)))
      let count := fun v : Verdict => (r.bins.filter fun b => decide (b.verdict = some v)).length
      let header : ReportHeader := {
        number := r.number, slot := r.slot, reason := r.reason, die := r.die, flags := r.flags, gauges := g
        bins := r.bins.length, start := r.start, stop := r.stop, firstBillet := b.billet
        lastBillet := (more.getLast?.getD b).billet, accept := count .accept, acceptWarn := count .acceptWarn
        ungauged := count .ungauged, rejectDim := count .rejectDim, rejectZone := count .rejectZone }
      let items := fun k : Nat => Items.fetch {
        header := header, first := k, returned := (fetched k).length, lastDropped := s.rq.lastDropped,
        bins := fetched k }
      exec (.fetchFirst tag []) s = .next (s.replyTo .fetchFirst tag []
        ⟨s.setRq { s.rq with fetchPtr := (fetched 0).length }, .ok, 0, items 0⟩) ∧
      (s.rq.fetchPtr ≠ r.bins.length → exec (.fetchNext tag []) s = .next (s.replyTo .fetchNext tag []
        ⟨s.setRq { s.rq with fetchPtr := s.rq.fetchPtr + (fetched s.rq.fetchPtr).length }, .ok, 0,
          items s.rq.fetchPtr⟩)) ∧
      (s.rq.fetchPtr = r.bins.length → exec (.fetchNext tag []) s = .next (s.replyTo .fetchNext tag []
        ⟨s, .noEffect, 0, items s.rq.fetchPtr⟩)) ∧
      (index ≤ r.bins.length → exec (.setFetchPointer tag p) s = .next (s.replyTo .setFetchPointer tag p
        ⟨s.setRq { s.rq with fetchPtr := index }, .ok, 0, .fetchPointer r.number r.bins.length index⟩)) ∧
      (r.bins.length < index → exec (.setFetchPointer tag p) s = .next (s.replyTo .setFetchPointer tag p
        ⟨s, .badValue, 1, .fetchPointer r.number r.bins.length s.rq.fetchPtr⟩))

/-- RELEASE and SET_TRACE (R164, R166): the oldest report goes and its records return to the pool; another piece number is refused;
without a report nothing happens. SET_TRACE takes N, starts the counter anew, and with 0 empties the trace buffer. -/
def Obligations.ReleasedAndTraced : Prop :=
  ∀ (tag n : Byte) (piece : Nat) (s : State), s.Listening → piece < 65536 →
    let p := leBytes 2 piece
    let answers := fun a : Answer => exec (.release tag p) s = .next (s.replyTo .release tag p a)
    (s.rq.reports = [] → answers ⟨s, .noEffect, 0, .released none 0 none s.rq.lastDropped⟩) ∧
    (∀ r rest, s.rq.reports = r :: rest → (piece = 0 ∨ piece = r.number) →
      answers ⟨(s.setRq { s.rq with reports := rest, fetchPtr := 0 }).setPt
          { s.pt with free := s.pt.free + r.bins.length }, .ok, 0,
        .released (some r.number) r.bins.length (rest.head?.map Report.number) s.rq.lastDropped⟩) ∧
    (∀ r rest, s.rq.reports = r :: rest → piece ≠ 0 → piece ≠ r.number →
      answers ⟨s, .badValue, 1, .released none 0 (some r.number) s.rq.lastDropped⟩) ∧
    exec (.setTrace tag [n]) s = .next (s.replyTo .setTrace tag [n] ⟨s.setLp { s.lp with
      traceN := n.toNat, decim := 0, traceBuf := if n = 0 then none else s.lp.traceBuf,
      replaced := if n = 0 then 0 else s.lp.replaced }, .ok, 0, .traceN n.toNat⟩)

/-- ACK_ALERTS, SET_NOTICES and SET_MATCH (R126, R149 to R152, R154): the flags of the mask clear and leave a pending alert frame,
which is withdrawn when it is emptied; clearing BURST clears the burst counter; the enable set is replaced; the match is
armed above the settled coordinate only. -/
def Obligations.AlertsCommanded : Prop :=
  ∀ (tag action : Byte) (set : FlagSet) (coord : Nat) (s : State), s.Listening → coord < 4294967296 →
    let p := leBytes 2 set.toNat
    let m := [action] ++ leBytes 4 coord
    let left := fun keep : FlagSet => s.au.newly.bind fun n => if n &&& keep = 0 then none else some (n &&& keep)
    let cleared := s.au.flags &&& set
    let flags := s.au.flags &&& ~~~set
    exec (.ackAlerts tag p) s = .next (s.replyTo .ackAlerts tag p
      ⟨(s.setAu { s.au with flags := flags, newly := left (~~~cleared) }).setPt
          { s.pt with burst := if FlagSet.has cleared .burst then 0 else s.pt.burst },
        if cleared = 0 then .noEffect else .ok, 0, .acked cleared flags⟩) ∧
    exec (.setNotices tag p) s = .next (s.replyTo .setNotices tag p
      ⟨s.setAu { s.au with enable := set, newly := left set }, .ok, 0, .notices set s.au.flags⟩) ∧
    exec (.setMatch tag m) s = .next (s.replyTo .setMatch tag m
      (if action = 0 then
        (if s.au.matchAt = none then ⟨s, .noEffect, 0, .matchState none s.pt.settled⟩
         else ⟨s.setAu { s.au with matchAt := none }, .ok, 0, .matchState none s.pt.settled⟩)
       else if action = 1 then
        (if coord ≤ s.pt.settled then ⟨s, .badValue, 1, .matchState s.au.matchAt s.pt.settled⟩
         else ⟨s.setAu { s.au with matchAt := some coord }, .ok, 0, .matchState (some coord) s.pt.settled⟩)
       else ⟨s, .badValue, 0, .matchState s.au.matchAt s.pt.settled⟩))

/-- IDENTIFY, SENSE and GET_STATUS (R177 to R179) change nothing and answer OK. The identity record's 16 bytes are those of R178.
SENSE carries the error record; GET_STATUS carries the state of each block as it stands. -/
def Obligations.PartRead : Prop :=
  ∀ (tag : Byte) (s : State), s.Listening →
    (exec (.identify tag []) s = .next (s.replyTo .identify tag [] ⟨s, .ok, 0, .identity⟩) ∧
      Items.bytes .identity = [83, 20, 24, 0, 1, 8, 32, 64, 32, 4, 4, 16, 0, 4, 6, 4]) ∧
    exec (.sense tag []) s = .next (s.replyTo .sense tag [] ⟨s, .ok, 0, .errorRecord s.lp.error⟩) ∧
    ∃ st, exec (.getStatus tag []) s = .next (s.replyTo .getStatus tag [] ⟨s, .ok, 0, .status st⟩) ∧
      st.activeDie = s.cc.activeDie ∧ st.haltBin = s.cc.haltBin ∧ st.outcome = s.cc.outcome ∧
      st.live = s.lt.acc / 65536 ∧ st.settled = s.pt.settled ∧ st.debt = s.lt.debt ∧ st.limit = s.lt.limit ∧
      st.pressBillet = s.pk.billet ∧ st.gaugeBillet = s.pk.gaugeBillet ∧ st.stopRec = s.pk.stopRec ∧
      st.heads = Rule.headItems s ∧ st.seq = s.sa.seq ∧ st.pendingSections = s.sa.pend.length ∧
      st.heldTemp = s.sa.heldTemp ∧ st.noReading = s.sa.noReading ∧ st.freeBins = s.pt.free ∧
      st.burst = s.pt.burst ∧ st.openPiece = s.pt.piece.map Piece.number ∧ st.openBins = s.pt.held ∧
      st.fetchPtr = s.rq.fetchPtr ∧ st.lastDropped = s.rq.lastDropped ∧
      st.queued = s.rq.reports.map Report.number ∧ st.flags = s.au.flags ∧ st.enable = s.au.enable ∧
      st.matchAt = s.au.matchAt ∧ st.alertNumber = s.au.number ∧ st.commandQueue = 0 ∧ st.traceN = s.lp.traceN ∧
      st.replaced = s.lp.replaced ∧ st.lineFault = s.lp.fault

/-- RESET_ENGINE (R143, R181): each block takes its soft-reset values; the slots' contents, the links, the directory, the
calibration, the settings of the heads, the geometry, the time base, the notice-enable set, the trace decimation, the
receiver and the frame being sent are kept. -/
def Obligations.EngineReset : Prop :=
  ∀ (tag : Byte) (s : State), s.Listening →
    ∃ u, exec (.resetEngine tag []) s = .next (s.replyTo .resetEngine tag [] ⟨u, .ok, 0, .summaryOnly⟩) ∧
      u.cc.engine = .idle ∧ u.cc.active = none ∧ u.cc.activeDie = none ∧ u.cc.haltBin = none ∧
      u.cc.outcome = { kind := .unset, slot := none, die := none, reverted := false, missing := 0 } ∧ u.cc.dir = s.cc.dir ∧ u.cc.activation = s.cc.activation ∧
      u.cc.compileBy = none ∧
      (∀ i, u.dieSlot i = { s.dieSlot i with busy := false }) ∧
      u.lt = { s.lt with
        acc := 0, debt := 0, limit := false, history := List.replicate 64 0, pitch := none, spacing := none,
        nextGrid := some 0, spacingExpiry := none } ∧
      u.hl.timeout = s.hl.timeout ∧ u.hl.lostM = s.hl.lostM ∧ u.hl.recR = s.hl.recR ∧
      (∀ h, u.head h = { s.head h with
        status := if (s.head h).status = .disabled then .disabled else .hunting
        miss := 0, recov := 0, fault := .clear, lock := false }) ∧
      u.sa.pend = [] ∧ u.sa.seq = 0 ∧ u.sa.heldTemp = 0 ∧ u.sa.noReading = 0 ∧
      u.ge = { compiled := none, handed := [] } ∧ u.pk = {
        state := .unknown, billet := 0, gaugeBillet := 0, stopRec := none, queue := [], stopZone := none, weldZone := none } ∧
      u.pt.settled = 0 ∧ u.pt.awaited = [] ∧ u.pt.piece = none ∧ u.pt.free = 1024 ∧ u.pt.frontCrop = none ∧
      u.pt.nextPiece = 1 ∧ u.pt.burst = 0 ∧ u.pt.episode = false ∧
      u.rq = { reports := [], fetchPtr := 0, lastDropped := none } ∧
      u.au = { flags := 0, enable := s.au.enable, newly := none, number := 0, matchAt := none } ∧
      u.lp = { s.lp with error := none, fault := .clear, decim := 0, traceBuf := none, replaced := 0 }
end

