-- ==== Sys2Proof/Laws/Bytes.lean ====
section
/-! SUPPORT. Reading back what was laid out: little-endian fields, two's complement, and the CRC-32 of a frame (R183). -/

namespace Sys2Proof.Machine

@[simp] theorem leBytes_length (n v : Nat) : (leBytes n v).length = n := by
  induction n generalizing v with
  | zero => rfl
  | succ n ih => simp [leBytes, ih]

/-- An unsigned field of `n` bytes reads back as the value modulo 256 to the n. -/
theorem leNat_leBytes (n v : Nat) : leNat (leBytes n v) = v % 256 ^ n := by
  induction n generalizing v with
  | zero => simp [leBytes, leNat, Nat.mod_one]
  | succ n ih =>
    simp only [leBytes, leNat, ih, BitVec.toNat_ofNat]
    rw [show 256 ^ (n + 1) = 256 * 256 ^ n from pow_succ' 256 n, Nat.mod_mul]

/-- A value that fits its field reads back whole. -/
theorem leNat_leBytes_of_lt {n v : Nat} (h : v < 256 ^ n) : leNat (leBytes n v) = v := by
  rw [leNat_leBytes, Nat.mod_eq_of_lt h]

theorem leNat_lt (bs : List Byte) : leNat bs < 256 ^ bs.length := by
  induction bs with
  | nil => simp [leNat]
  | cons b bs ih =>
    have := b.isLt
    simp only [leNat, List.length_cons, pow_succ]
    omega

/-- The bytes of a field are those of its value. -/
theorem leBytes_leNat (bs : List Byte) : leBytes bs.length (leNat bs) = bs := by
  induction bs with
  | nil => rfl
  | cons b bs ih =>
    have hb := b.isLt
    have h1 : (b.toNat + 256 * leNat bs) / 256 = leNat bs := by omega
    have h2 : BitVec.ofNat 8 (b.toNat + 256 * leNat bs) = b := by
      apply BitVec.eq_of_toNat_eq
      rw [BitVec.toNat_ofNat]
      omega
    simp only [List.length_cons, leBytes, leNat, h1, h2, ih]

@[simp] theorem leIntBytes_length (n : Nat) (v : Int) : (leIntBytes n v).length = n := by simp [leIntBytes]

/-- A signed value that fits its field reads back whole. -/
theorem leInt_leIntBytes {n : Nat} {v : Int} (h1 : -(256 ^ n : Nat) ≤ 2 * v) (h2 : 2 * v < (256 ^ n : Nat)) :
    leInt (leIntBytes n v) = v := by
  have hpos : (0 : Int) < (256 ^ n : Nat) := by positivity
  have hm := Int.emod_nonneg v hpos.ne'
  have hlt := Int.emod_lt_of_pos v hpos
  have hcast : ((v % (256 ^ n : Nat)).toNat : Int) = v % (256 ^ n : Nat) := Int.toNat_of_nonneg hm
  have hfit : (v % (256 ^ n : Nat)).toNat < 256 ^ n := by omega
  unfold leInt leIntBytes
  rw [leNat_leBytes_of_lt hfit, leBytes_length]
  rcases lt_or_ge v 0 with hv | hv
  · have hvm : v % (256 ^ n : Nat) = v + (256 ^ n : Nat) := by
      rw [← Int.add_emod_right, Int.emod_eq_of_lt (by omega) (by omega)]
    split <;> omega
  · have hvm : v % (256 ^ n : Nat) = v := Int.emod_eq_of_lt hv (by omega)
    split <;> omega

/-- A field read at its offset. -/
theorem natAt_append (pre mid post : List Byte) (o n : Nat) (ho : o = pre.length) (hn : n = mid.length) :
    natAt (pre ++ (mid ++ post)) o n = leNat mid := by
  subst ho hn
  simp [natAt]

theorem intAt_append (pre mid post : List Byte) (o n : Nat) (ho : o = pre.length) (hn : n = mid.length) :
    intAt (pre ++ (mid ++ post)) o n = leInt mid := by
  subst ho hn
  simp [intAt]

/-- A frame that ends in the CRC of its bytes passes the CRC test (R183). -/
theorem crcMatches_withCrc (bs : List Byte) : crcMatches (withCrc bs) bs.length = true := by
  have h : natAt (withCrc bs) bs.length 4 = (crc32 bs).toNat := by
    have := natAt_append bs (crcBytes bs) [] bs.length 4 rfl (by simp [crcBytes])
    rw [List.append_nil] at this
    rw [withCrc, this, crcBytes, leNat_leBytes_of_lt]
    exact lt_of_lt_of_eq (crc32 bs).isLt (by norm_num)
  rw [crcMatches, h]
  simp [withCrc]

end Sys2Proof.Machine
end

