-- ==== Sys2Proof/Laws/State.lean ====
section
/-! SUPPORT. One lemma per block and per block update of the state, and the readings of heads and die slots after an
update of one. -/

namespace Sys2Proof.Machine

variable (s : State)

@[simp] theorem State.setInReset_inReset (x : Bool) : (s.setInReset x).inReset = x := rfl
@[simp] theorem State.setInReset_lt (x : Bool) : (s.setInReset x).lt = s.lt := rfl
@[simp] theorem State.setInReset_hl (x : Bool) : (s.setInReset x).hl = s.hl := rfl
@[simp] theorem State.setInReset_sa (x : Bool) : (s.setInReset x).sa = s.sa := rfl
@[simp] theorem State.setInReset_ge (x : Bool) : (s.setInReset x).ge = s.ge := rfl
@[simp] theorem State.setInReset_pk (x : Bool) : (s.setInReset x).pk = s.pk := rfl
@[simp] theorem State.setInReset_pt (x : Bool) : (s.setInReset x).pt = s.pt := rfl
@[simp] theorem State.setInReset_cc (x : Bool) : (s.setInReset x).cc = s.cc := rfl
@[simp] theorem State.setInReset_rq (x : Bool) : (s.setInReset x).rq = s.rq := rfl
@[simp] theorem State.setInReset_au (x : Bool) : (s.setInReset x).au = s.au := rfl
@[simp] theorem State.setInReset_lp (x : Bool) : (s.setInReset x).lp = s.lp := rfl
@[simp] theorem State.setInReset_pending (x : Bool) : (s.setInReset x).pending = s.pending := rfl
@[simp] theorem State.setInReset_self : s.setInReset s.inReset = s := rfl
@[simp] theorem State.setInReset_setInReset (x y : Bool) : (s.setInReset x).setInReset y = s.setInReset y := rfl

@[simp] theorem State.setLt_inReset (x : LengthTracker) : (s.setLt x).inReset = s.inReset := rfl
@[simp] theorem State.setLt_lt (x : LengthTracker) : (s.setLt x).lt = x := rfl
@[simp] theorem State.setLt_hl (x : LengthTracker) : (s.setLt x).hl = s.hl := rfl
@[simp] theorem State.setLt_sa (x : LengthTracker) : (s.setLt x).sa = s.sa := rfl
@[simp] theorem State.setLt_ge (x : LengthTracker) : (s.setLt x).ge = s.ge := rfl
@[simp] theorem State.setLt_pk (x : LengthTracker) : (s.setLt x).pk = s.pk := rfl
@[simp] theorem State.setLt_pt (x : LengthTracker) : (s.setLt x).pt = s.pt := rfl
@[simp] theorem State.setLt_cc (x : LengthTracker) : (s.setLt x).cc = s.cc := rfl
@[simp] theorem State.setLt_rq (x : LengthTracker) : (s.setLt x).rq = s.rq := rfl
@[simp] theorem State.setLt_au (x : LengthTracker) : (s.setLt x).au = s.au := rfl
@[simp] theorem State.setLt_lp (x : LengthTracker) : (s.setLt x).lp = s.lp := rfl
@[simp] theorem State.setLt_pending (x : LengthTracker) : (s.setLt x).pending = s.pending := rfl
@[simp] theorem State.setLt_self : s.setLt s.lt = s := rfl
@[simp] theorem State.setLt_setLt (x y : LengthTracker) : (s.setLt x).setLt y = s.setLt y := rfl

@[simp] theorem State.setHl_inReset (x : HeadPorts) : (s.setHl x).inReset = s.inReset := rfl
@[simp] theorem State.setHl_lt (x : HeadPorts) : (s.setHl x).lt = s.lt := rfl
@[simp] theorem State.setHl_hl (x : HeadPorts) : (s.setHl x).hl = x := rfl
@[simp] theorem State.setHl_sa (x : HeadPorts) : (s.setHl x).sa = s.sa := rfl
@[simp] theorem State.setHl_ge (x : HeadPorts) : (s.setHl x).ge = s.ge := rfl
@[simp] theorem State.setHl_pk (x : HeadPorts) : (s.setHl x).pk = s.pk := rfl
@[simp] theorem State.setHl_pt (x : HeadPorts) : (s.setHl x).pt = s.pt := rfl
@[simp] theorem State.setHl_cc (x : HeadPorts) : (s.setHl x).cc = s.cc := rfl
@[simp] theorem State.setHl_rq (x : HeadPorts) : (s.setHl x).rq = s.rq := rfl
@[simp] theorem State.setHl_au (x : HeadPorts) : (s.setHl x).au = s.au := rfl
@[simp] theorem State.setHl_lp (x : HeadPorts) : (s.setHl x).lp = s.lp := rfl
@[simp] theorem State.setHl_pending (x : HeadPorts) : (s.setHl x).pending = s.pending := rfl
@[simp] theorem State.setHl_self : s.setHl s.hl = s := rfl
@[simp] theorem State.setHl_setHl (x y : HeadPorts) : (s.setHl x).setHl y = s.setHl y := rfl

@[simp] theorem State.setSa_inReset (x : Assembler) : (s.setSa x).inReset = s.inReset := rfl
@[simp] theorem State.setSa_lt (x : Assembler) : (s.setSa x).lt = s.lt := rfl
@[simp] theorem State.setSa_hl (x : Assembler) : (s.setSa x).hl = s.hl := rfl
@[simp] theorem State.setSa_sa (x : Assembler) : (s.setSa x).sa = x := rfl
@[simp] theorem State.setSa_ge (x : Assembler) : (s.setSa x).ge = s.ge := rfl
@[simp] theorem State.setSa_pk (x : Assembler) : (s.setSa x).pk = s.pk := rfl
@[simp] theorem State.setSa_pt (x : Assembler) : (s.setSa x).pt = s.pt := rfl
@[simp] theorem State.setSa_cc (x : Assembler) : (s.setSa x).cc = s.cc := rfl
@[simp] theorem State.setSa_rq (x : Assembler) : (s.setSa x).rq = s.rq := rfl
@[simp] theorem State.setSa_au (x : Assembler) : (s.setSa x).au = s.au := rfl
@[simp] theorem State.setSa_lp (x : Assembler) : (s.setSa x).lp = s.lp := rfl
@[simp] theorem State.setSa_pending (x : Assembler) : (s.setSa x).pending = s.pending := rfl
@[simp] theorem State.setSa_self : s.setSa s.sa = s := rfl
@[simp] theorem State.setSa_setSa (x y : Assembler) : (s.setSa x).setSa y = s.setSa y := rfl

@[simp] theorem State.setGe_inReset (x : GaugeEngine) : (s.setGe x).inReset = s.inReset := rfl
@[simp] theorem State.setGe_lt (x : GaugeEngine) : (s.setGe x).lt = s.lt := rfl
@[simp] theorem State.setGe_hl (x : GaugeEngine) : (s.setGe x).hl = s.hl := rfl
@[simp] theorem State.setGe_sa (x : GaugeEngine) : (s.setGe x).sa = s.sa := rfl
@[simp] theorem State.setGe_ge (x : GaugeEngine) : (s.setGe x).ge = x := rfl
@[simp] theorem State.setGe_pk (x : GaugeEngine) : (s.setGe x).pk = s.pk := rfl
@[simp] theorem State.setGe_pt (x : GaugeEngine) : (s.setGe x).pt = s.pt := rfl
@[simp] theorem State.setGe_cc (x : GaugeEngine) : (s.setGe x).cc = s.cc := rfl
@[simp] theorem State.setGe_rq (x : GaugeEngine) : (s.setGe x).rq = s.rq := rfl
@[simp] theorem State.setGe_au (x : GaugeEngine) : (s.setGe x).au = s.au := rfl
@[simp] theorem State.setGe_lp (x : GaugeEngine) : (s.setGe x).lp = s.lp := rfl
@[simp] theorem State.setGe_pending (x : GaugeEngine) : (s.setGe x).pending = s.pending := rfl
@[simp] theorem State.setGe_self : s.setGe s.ge = s := rfl
@[simp] theorem State.setGe_setGe (x y : GaugeEngine) : (s.setGe x).setGe y = s.setGe y := rfl

@[simp] theorem State.setPk_inReset (x : PressTracker) : (s.setPk x).inReset = s.inReset := rfl
@[simp] theorem State.setPk_lt (x : PressTracker) : (s.setPk x).lt = s.lt := rfl
@[simp] theorem State.setPk_hl (x : PressTracker) : (s.setPk x).hl = s.hl := rfl
@[simp] theorem State.setPk_sa (x : PressTracker) : (s.setPk x).sa = s.sa := rfl
@[simp] theorem State.setPk_ge (x : PressTracker) : (s.setPk x).ge = s.ge := rfl
@[simp] theorem State.setPk_pk (x : PressTracker) : (s.setPk x).pk = x := rfl
@[simp] theorem State.setPk_pt (x : PressTracker) : (s.setPk x).pt = s.pt := rfl
@[simp] theorem State.setPk_cc (x : PressTracker) : (s.setPk x).cc = s.cc := rfl
@[simp] theorem State.setPk_rq (x : PressTracker) : (s.setPk x).rq = s.rq := rfl
@[simp] theorem State.setPk_au (x : PressTracker) : (s.setPk x).au = s.au := rfl
@[simp] theorem State.setPk_lp (x : PressTracker) : (s.setPk x).lp = s.lp := rfl
@[simp] theorem State.setPk_pending (x : PressTracker) : (s.setPk x).pending = s.pending := rfl
@[simp] theorem State.setPk_self : s.setPk s.pk = s := rfl
@[simp] theorem State.setPk_setPk (x y : PressTracker) : (s.setPk x).setPk y = s.setPk y := rfl

@[simp] theorem State.setPt_inReset (x : PieceTracker) : (s.setPt x).inReset = s.inReset := rfl
@[simp] theorem State.setPt_lt (x : PieceTracker) : (s.setPt x).lt = s.lt := rfl
@[simp] theorem State.setPt_hl (x : PieceTracker) : (s.setPt x).hl = s.hl := rfl
@[simp] theorem State.setPt_sa (x : PieceTracker) : (s.setPt x).sa = s.sa := rfl
@[simp] theorem State.setPt_ge (x : PieceTracker) : (s.setPt x).ge = s.ge := rfl
@[simp] theorem State.setPt_pk (x : PieceTracker) : (s.setPt x).pk = s.pk := rfl
@[simp] theorem State.setPt_pt (x : PieceTracker) : (s.setPt x).pt = x := rfl
@[simp] theorem State.setPt_cc (x : PieceTracker) : (s.setPt x).cc = s.cc := rfl
@[simp] theorem State.setPt_rq (x : PieceTracker) : (s.setPt x).rq = s.rq := rfl
@[simp] theorem State.setPt_au (x : PieceTracker) : (s.setPt x).au = s.au := rfl
@[simp] theorem State.setPt_lp (x : PieceTracker) : (s.setPt x).lp = s.lp := rfl
@[simp] theorem State.setPt_pending (x : PieceTracker) : (s.setPt x).pending = s.pending := rfl
@[simp] theorem State.setPt_self : s.setPt s.pt = s := rfl
@[simp] theorem State.setPt_setPt (x y : PieceTracker) : (s.setPt x).setPt y = s.setPt y := rfl

@[simp] theorem State.setCc_inReset (x : Context) : (s.setCc x).inReset = s.inReset := rfl
@[simp] theorem State.setCc_lt (x : Context) : (s.setCc x).lt = s.lt := rfl
@[simp] theorem State.setCc_hl (x : Context) : (s.setCc x).hl = s.hl := rfl
@[simp] theorem State.setCc_sa (x : Context) : (s.setCc x).sa = s.sa := rfl
@[simp] theorem State.setCc_ge (x : Context) : (s.setCc x).ge = s.ge := rfl
@[simp] theorem State.setCc_pk (x : Context) : (s.setCc x).pk = s.pk := rfl
@[simp] theorem State.setCc_pt (x : Context) : (s.setCc x).pt = s.pt := rfl
@[simp] theorem State.setCc_cc (x : Context) : (s.setCc x).cc = x := rfl
@[simp] theorem State.setCc_rq (x : Context) : (s.setCc x).rq = s.rq := rfl
@[simp] theorem State.setCc_au (x : Context) : (s.setCc x).au = s.au := rfl
@[simp] theorem State.setCc_lp (x : Context) : (s.setCc x).lp = s.lp := rfl
@[simp] theorem State.setCc_pending (x : Context) : (s.setCc x).pending = s.pending := rfl
@[simp] theorem State.setCc_self : s.setCc s.cc = s := rfl
@[simp] theorem State.setCc_setCc (x y : Context) : (s.setCc x).setCc y = s.setCc y := rfl

@[simp] theorem State.setRq_inReset (x : ReportQueue) : (s.setRq x).inReset = s.inReset := rfl
@[simp] theorem State.setRq_lt (x : ReportQueue) : (s.setRq x).lt = s.lt := rfl
@[simp] theorem State.setRq_hl (x : ReportQueue) : (s.setRq x).hl = s.hl := rfl
@[simp] theorem State.setRq_sa (x : ReportQueue) : (s.setRq x).sa = s.sa := rfl
@[simp] theorem State.setRq_ge (x : ReportQueue) : (s.setRq x).ge = s.ge := rfl
@[simp] theorem State.setRq_pk (x : ReportQueue) : (s.setRq x).pk = s.pk := rfl
@[simp] theorem State.setRq_pt (x : ReportQueue) : (s.setRq x).pt = s.pt := rfl
@[simp] theorem State.setRq_cc (x : ReportQueue) : (s.setRq x).cc = s.cc := rfl
@[simp] theorem State.setRq_rq (x : ReportQueue) : (s.setRq x).rq = x := rfl
@[simp] theorem State.setRq_au (x : ReportQueue) : (s.setRq x).au = s.au := rfl
@[simp] theorem State.setRq_lp (x : ReportQueue) : (s.setRq x).lp = s.lp := rfl
@[simp] theorem State.setRq_pending (x : ReportQueue) : (s.setRq x).pending = s.pending := rfl
@[simp] theorem State.setRq_self : s.setRq s.rq = s := rfl
@[simp] theorem State.setRq_setRq (x y : ReportQueue) : (s.setRq x).setRq y = s.setRq y := rfl

@[simp] theorem State.setAu_inReset (x : AlertUnit) : (s.setAu x).inReset = s.inReset := rfl
@[simp] theorem State.setAu_lt (x : AlertUnit) : (s.setAu x).lt = s.lt := rfl
@[simp] theorem State.setAu_hl (x : AlertUnit) : (s.setAu x).hl = s.hl := rfl
@[simp] theorem State.setAu_sa (x : AlertUnit) : (s.setAu x).sa = s.sa := rfl
@[simp] theorem State.setAu_ge (x : AlertUnit) : (s.setAu x).ge = s.ge := rfl
@[simp] theorem State.setAu_pk (x : AlertUnit) : (s.setAu x).pk = s.pk := rfl
@[simp] theorem State.setAu_pt (x : AlertUnit) : (s.setAu x).pt = s.pt := rfl
@[simp] theorem State.setAu_cc (x : AlertUnit) : (s.setAu x).cc = s.cc := rfl
@[simp] theorem State.setAu_rq (x : AlertUnit) : (s.setAu x).rq = s.rq := rfl
@[simp] theorem State.setAu_au (x : AlertUnit) : (s.setAu x).au = x := rfl
@[simp] theorem State.setAu_lp (x : AlertUnit) : (s.setAu x).lp = s.lp := rfl
@[simp] theorem State.setAu_pending (x : AlertUnit) : (s.setAu x).pending = s.pending := rfl
@[simp] theorem State.setAu_self : s.setAu s.au = s := rfl
@[simp] theorem State.setAu_setAu (x y : AlertUnit) : (s.setAu x).setAu y = s.setAu y := rfl

@[simp] theorem State.setLp_inReset (x : LinePort) : (s.setLp x).inReset = s.inReset := rfl
@[simp] theorem State.setLp_lt (x : LinePort) : (s.setLp x).lt = s.lt := rfl
@[simp] theorem State.setLp_hl (x : LinePort) : (s.setLp x).hl = s.hl := rfl
@[simp] theorem State.setLp_sa (x : LinePort) : (s.setLp x).sa = s.sa := rfl
@[simp] theorem State.setLp_ge (x : LinePort) : (s.setLp x).ge = s.ge := rfl
@[simp] theorem State.setLp_pk (x : LinePort) : (s.setLp x).pk = s.pk := rfl
@[simp] theorem State.setLp_pt (x : LinePort) : (s.setLp x).pt = s.pt := rfl
@[simp] theorem State.setLp_cc (x : LinePort) : (s.setLp x).cc = s.cc := rfl
@[simp] theorem State.setLp_rq (x : LinePort) : (s.setLp x).rq = s.rq := rfl
@[simp] theorem State.setLp_au (x : LinePort) : (s.setLp x).au = s.au := rfl
@[simp] theorem State.setLp_lp (x : LinePort) : (s.setLp x).lp = x := rfl
@[simp] theorem State.setLp_pending (x : LinePort) : (s.setLp x).pending = s.pending := rfl
@[simp] theorem State.setLp_self : s.setLp s.lp = s := rfl
@[simp] theorem State.setLp_setLp (x y : LinePort) : (s.setLp x).setLp y = s.setLp y := rfl

@[simp] theorem State.setPending_inReset (x : List Instr) : (s.setPending x).inReset = s.inReset := rfl
@[simp] theorem State.setPending_lt (x : List Instr) : (s.setPending x).lt = s.lt := rfl
@[simp] theorem State.setPending_hl (x : List Instr) : (s.setPending x).hl = s.hl := rfl
@[simp] theorem State.setPending_sa (x : List Instr) : (s.setPending x).sa = s.sa := rfl
@[simp] theorem State.setPending_ge (x : List Instr) : (s.setPending x).ge = s.ge := rfl
@[simp] theorem State.setPending_pk (x : List Instr) : (s.setPending x).pk = s.pk := rfl
@[simp] theorem State.setPending_pt (x : List Instr) : (s.setPending x).pt = s.pt := rfl
@[simp] theorem State.setPending_cc (x : List Instr) : (s.setPending x).cc = s.cc := rfl
@[simp] theorem State.setPending_rq (x : List Instr) : (s.setPending x).rq = s.rq := rfl
@[simp] theorem State.setPending_au (x : List Instr) : (s.setPending x).au = s.au := rfl
@[simp] theorem State.setPending_lp (x : List Instr) : (s.setPending x).lp = s.lp := rfl
@[simp] theorem State.setPending_pending (x : List Instr) : (s.setPending x).pending = x := rfl
@[simp] theorem State.setPending_self : s.setPending s.pending = s := rfl
@[simp] theorem State.setPending_setPending (x y : List Instr) : (s.setPending x).setPending y = s.setPending y := rfl

/-! ### Heads -/

@[simp] theorem PerHead.get_put_self {α : Type} (p : PerHead α) (h : Fin 4) (x : α) : (p.put h x).get h = x := by
  fin_cases h <;> rfl

theorem PerHead.get_put_other {α : Type} (p : PerHead α) {h k : Fin 4} (x : α) (hk : k ≠ h) :
    (p.put h x).get k = p.get k := by
  fin_cases h <;> fin_cases k <;> first | rfl | exact absurd rfl hk

@[simp] theorem perHead_get {α : Type} (f : Fin 4 → α) (h : Fin 4) : (perHead f).get h = f h := by
  fin_cases h <;> rfl

@[simp] theorem State.putHead_head_self (h : Fin 4) (x : Head) : (s.putHead h x).head h = x := by
  simp [State.putHead, State.head]

theorem State.putHead_head_other {h k : Fin 4} (x : Head) (hk : k ≠ h) : (s.putHead h x).head k = s.head k := by
  simp [State.putHead, State.head, PerHead.get_put_other _ _ hk]

/-- Whether a head is in the set that a test makes. -/
@[simp] theorem headSet_has (f : Fin 4 → Bool) (h : Fin 4) : HeadSet.has (headSet f) h = f h := by
  fin_cases h <;> cases h0 : f 0 <;> cases h1 : f 1 <;> cases h2 : f 2 <;> cases h3 : f 3 <;>
    simp [headSet, HeadSet.has, h0, h1, h2, h3]

/-! ### Die slots -/

@[simp] theorem State.putSlot_dieSlot_self (i : Fin 8) (d : DieSlot) : (s.putSlot i d).dieSlot i = d := by
  simp [State.putSlot, State.dieSlot]

theorem State.putSlot_dieSlot_other {i j : Fin 8} (d : DieSlot) (h : j ≠ i) :
    (s.putSlot i d).dieSlot j = s.dieSlot j := by
  simp only [State.putSlot, State.dieSlot, State.setCc_cc]
  exact Vector.getElem_set_ne _ _ (fun e => h (Fin.ext e.symm))

end Sys2Proof.Machine
end

