-- ==== Sys2Proof/Laws/Frames.lean ====
section
/-! SUPPORT. What the operations of the Piece Tracker and of the Section Assembler leave as it stands, each said once. -/

namespace Sys2Proof.Machine

/-- What the work along the profile (6.2 to 6.4) leaves as it stands: every block but the Press Tracker's zones and queue,
the Piece Tracker, the Report Queue, the alert flags, and the engine state at the end of a halt. -/
structure PieceFrame (s t : State) : Prop where
  inReset : t.inReset = s.inReset
  lt : t.lt = s.lt
  hl : t.hl = s.hl
  sa : t.sa = s.sa
  ge : t.ge = s.ge
  lp : t.lp = s.lp
  pending : t.pending = s.pending
  slots : t.cc.slots = s.cc.slots
  dir : t.cc.dir = s.cc.dir
  active : t.cc.active = s.cc.active
  activeDie : t.cc.activeDie = s.cc.activeDie
  activation : t.cc.activation = s.cc.activation
  outcome : t.cc.outcome = s.cc.outcome
  compileBy : t.cc.compileBy = s.cc.compileBy
  enable : t.au.enable = s.au.enable
  number : t.au.number = s.au.number
  press : t.pk.state = s.pk.state
  billet : t.pk.billet = s.pk.billet
  stopRec : t.pk.stopRec = s.pk.stopRec
  presented : t.pt.presented = s.pt.presented
  awaited : t.pt.awaited = s.pt.awaited
  results : t.pt.results = s.pt.results

theorem PieceFrame.refl (s : State) : PieceFrame s s := by constructor <;> rfl

theorem PieceFrame.trans {s t u : State} (h : PieceFrame s t) (k : PieceFrame t u) : PieceFrame s u := by
  constructor
  · rw [k.inReset, h.inReset]
  · rw [k.lt, h.lt]
  · rw [k.hl, h.hl]
  · rw [k.sa, h.sa]
  · rw [k.ge, h.ge]
  · rw [k.lp, h.lp]
  · rw [k.pending, h.pending]
  · rw [k.slots, h.slots]
  · rw [k.dir, h.dir]
  · rw [k.active, h.active]
  · rw [k.activeDie, h.activeDie]
  · rw [k.activation, h.activation]
  · rw [k.outcome, h.outcome]
  · rw [k.compileBy, h.compileBy]
  · rw [k.enable, h.enable]
  · rw [k.number, h.number]
  · rw [k.press, h.press]
  · rw [k.billet, h.billet]
  · rw [k.stopRec, h.stopRec]
  · rw [k.presented, h.presented]
  · rw [k.awaited, h.awaited]
  · rw [k.results, h.results]

/-- The parameters are those of the active slot's record, which the work along the profile leaves. -/
theorem PieceFrame.params {s t : State} (h : PieceFrame s t) : t.params = s.params := by
  simp only [State.params, State.dieSlot, h.active, h.slots]

/-- A raise changes the flags and the pending alert frame only (R146, R147). -/
theorem AlertUnit.rise_frame (a : AlertUnit) (f : AlertFlag) :
    (a.rise f).enable = a.enable ∧ (a.rise f).number = a.number ∧ (a.rise f).matchAt = a.matchAt := by
  unfold AlertUnit.rise; split <;> simp

theorem State.raise_frame (s : State) (f : AlertFlag) : PieceFrame s (s.raise f) := by
  have h := s.au.rise_frame f
  constructor <;> first | rfl | exact h.1 | exact h.2.1

/-- Updates of the blocks that the work along the profile changes. -/
theorem State.setRq_frame (s : State) (x : ReportQueue) : PieceFrame s (s.setRq x) := by constructor <;> rfl

theorem State.setPt_frame (s : State) (x : PieceTracker) (h1 : x.presented = s.pt.presented)
    (h2 : x.awaited = s.pt.awaited) (h3 : x.results = s.pt.results) : PieceFrame s (s.setPt x) := by
  constructor <;> first | rfl | assumption

theorem State.setPk_frame (s : State) (x : PressTracker) (h1 : x.state = s.pk.state) (h2 : x.billet = s.pk.billet)
    (h3 : x.stopRec = s.pk.stopRec) : PieceFrame s (s.setPk x) := by
  constructor <;> first | rfl | assumption

theorem State.mapPiece_frame (s : State) (f : Piece → Piece) : PieceFrame s (s.mapPiece f) :=
  s.setPt_frame _ rfl rfl rfl

theorem State.dropOldest_frame (s : State) : PieceFrame s s.dropOldest := by
  unfold State.dropOldest
  split
  · exact .refl s
  · refine PieceFrame.trans ?_ (State.raise_frame _ _)
    refine PieceFrame.trans ?_ (State.setRq_frame _ _)
    exact s.setPt_frame _ rfl rfl rfl

theorem State.appendReport_frame (s : State) (r : Report) : PieceFrame s (s.appendReport r) := by
  unfold State.appendReport
  refine PieceFrame.trans ?_ (State.raise_frame _ _)
  refine PieceFrame.trans ?_ (State.setRq_frame _ _)
  split
  · exact .refl s
  · exact s.dropOldest_frame

theorem State.noteClose_frame (s : State) : PieceFrame s s.noteClose := by
  unfold State.noteClose
  split
  · refine PieceFrame.trans ?_ (State.raise_frame _ _)
    constructor <;> rfl
  · exact .refl s

theorem State.openPiece_frame (s : State) (p : Nat) (c : Bool) : PieceFrame s (s.openPiece p c) := by
  unfold State.openPiece
  refine PieceFrame.trans ?_ (State.setPt_frame _ _ rfl rfl rfl)
  refine PieceFrame.trans ?_ (State.setPt_frame _ _ rfl rfl rfl)
  split
  · exact s.dropOldest_frame
  · exact .refl s

theorem State.closePiece_frame (s : State) (r : CloseReason) (e : Nat) : PieceFrame s (s.closePiece r e) := by
  unfold State.closePiece
  split
  · exact .refl s
  · dsimp only
    split
    · refine PieceFrame.trans ?_ (State.appendReport_frame _ _)
      exact s.setPt_frame _ rfl rfl rfl
    · refine PieceFrame.trans ?_ (State.noteClose_frame _)
      refine PieceFrame.trans ?_ (State.appendReport_frame _ _)
      exact s.setPt_frame _ rfl rfl rfl

theorem State.applyBoundary_frame (s : State) (e : Nat) : PieceFrame s (s.applyBoundary e) := by
  unfold State.applyBoundary
  split
  · exact .refl s
  · split
    · dsimp only
      split
      · exact s.noteClose_frame.trans (State.setPt_frame _ _ rfl rfl rfl)
      · refine PieceFrame.trans ?_ (State.setPt_frame _ _ rfl rfl rfl)
        split
        · exact s.noteClose_frame
        · exact s.noteClose_frame.trans (State.raise_frame _ _)
    · exact (s.closePiece_frame _ _).trans (State.openPiece_frame _ _ _)

theorem State.applyZone_frame (s : State) (y : Nat) (m : Mark) : PieceFrame s (s.applyZone y m) := by
  unfold State.applyZone
  refine PieceFrame.trans ?_ (State.mapPiece_frame _ _)
  split <;> exact State.setPk_frame _ _ rfl rfl rfl

theorem State.applyCut_frame (s : State) (x : Nat) (est : Bool) : PieceFrame s (s.applyCut x est) := by
  unfold State.applyCut
  cases est
  · exact (s.closePiece_frame _ _).trans (State.openPiece_frame _ _ _)
  · exact (((s.mapPiece_frame _).trans (State.closePiece_frame _ _ _)).trans (State.openPiece_frame _ _ _)).trans
      (State.mapPiece_frame _ _)

theorem State.boundaryAt_frame (s : State) (y : Nat) : PieceFrame s (s.boundaryAt y) := by
  unfold State.boundaryAt
  split
  · exact .refl s
  · split
    · exact s.applyBoundary_frame y
    · exact .refl s

/-- A fold of operations that each keep the frame keeps it. -/
theorem PieceFrame.foldl {α : Type} (f : State → α → State) (hf : ∀ s a, PieceFrame s (f s a)) :
    ∀ (l : List α) (s : State), PieceFrame s (l.foldl f s)
  | [], s => .refl s
  | a :: l, s => (hf s a).trans (PieceFrame.foldl f hf l (f s a))

theorem State.applyAt_frame (s : State) (y : Nat) : PieceFrame s (s.applyAt y) := by
  unfold State.applyAt
  refine PieceFrame.trans ?_ (PieceFrame.foldl _ (fun s m => s.applyZone_frame y m) _ _)
  refine PieceFrame.trans ?_ (State.boundaryAt_frame _ _)
  refine PieceFrame.trans ?_ (PieceFrame.foldl _ (fun s (m : Mark) => s.applyCut_frame y m.est) _ _)
  constructor <;> rfl

theorem State.walk_frame : ∀ (n : Nat) (s : State) (y limit : Nat), PieceFrame s (State.walk n s y limit)
  | 0, s, _, _ => .refl s
  | n + 1, s, y, limit => by
    unfold State.walk
    split
    · exact .refl s
    · exact (s.applyAt_frame _).trans (State.walk_frame n _ _ _)

theorem State.offerMatch_frame (s : State) (a b : Nat) : PieceFrame s (s.offerMatch a b) := by
  unfold State.offerMatch
  split
  · exact .refl s
  · split
    · refine PieceFrame.trans ?_ (State.raise_frame _ _)
      constructor <;> rfl
    · exact .refl s

theorem State.advanceTo_frame (s : State) (c : Nat) : PieceFrame s (s.advanceTo c) := by
  unfold State.advanceTo
  split
  · refine PieceFrame.trans ?_ (State.offerMatch_frame _ _ _)
    exact PieceFrame.trans (State.walk_frame (c - s.pt.settled) s s.pt.settled c)
      (State.setPt_frame _ _ rfl rfl rfl)
  · exact .refl s

theorem State.advance_frame (s : State) : PieceFrame s s.advance := s.advanceTo_frame _

theorem State.flagLate_frame (s : State) : PieceFrame s s.flagLate :=
  (s.mapPiece_frame _).trans (State.raise_frame _ _)

theorem State.lateZone_frame (s : State) (m : Mark) : PieceFrame s (s.lateZone m) :=
  s.flagLate_frame.trans (State.applyZone_frame _ _ _)

theorem State.lateCut_frame (s : State) (x : Nat) (est : Bool) : PieceFrame s (s.lateCut x est) := by
  unfold State.lateCut
  refine PieceFrame.trans ?_ (State.walk_frame _ _ _ _)
  refine PieceFrame.trans ?_ (State.applyCut_frame _ _ _)
  exact s.flagLate_frame.trans (State.setPt_frame _ _ rfl rfl rfl)

theorem State.countBurst_frame (s : State) (r : SecResult) : PieceFrame s (s.countBurst r) := by
  unfold State.countBurst
  split
  · exact s.setPt_frame _ rfl rfl rfl
  · split
    · exact .refl s
    · split
      · exact .refl s
      · split
        · dsimp only
          split
          · refine PieceFrame.trans ?_ (State.raise_frame _ _)
            exact s.setPt_frame _ rfl rfl rfl
          · exact s.setPt_frame _ rfl rfl rfl
        · exact s.setPt_frame _ rfl rfl rfl

/-! ### The Section Assembler -/

/-- What the completion and retirement of sections (3.5, 3.6) leave as it stands. -/
structure SectionFrame (s t : State) : Prop where
  inReset : t.inReset = s.inReset
  lt : t.lt = s.lt
  lp : t.lp = s.lp
  pending : t.pending = s.pending
  slots : t.cc.slots = s.cc.slots
  dir : t.cc.dir = s.cc.dir
  active : t.cc.active = s.cc.active
  activeDie : t.cc.activeDie = s.cc.activeDie
  activation : t.cc.activation = s.cc.activation
  outcome : t.cc.outcome = s.cc.outcome
  compileBy : t.cc.compileBy = s.cc.compileBy
  enable : t.au.enable = s.au.enable
  number : t.au.number = s.au.number
  press : t.pk.state = s.pk.state
  billet : t.pk.billet = s.pk.billet
  stopRec : t.pk.stopRec = s.pk.stopRec
  presented : t.pt.presented = s.pt.presented
  results : t.pt.results = s.pt.results
  compiled : t.ge.compiled = s.ge.compiled
  seq : t.sa.seq = s.sa.seq
  issued : t.sa.issued = s.sa.issued
  timeout : t.hl.timeout = s.hl.timeout
  lostM : t.hl.lostM = s.hl.lostM
  recR : t.hl.recR = s.hl.recR

theorem SectionFrame.refl (s : State) : SectionFrame s s := by constructor <;> rfl

theorem SectionFrame.trans {s t u : State} (h : SectionFrame s t) (k : SectionFrame t u) : SectionFrame s u := by
  constructor
  · rw [k.inReset, h.inReset]
  · rw [k.lt, h.lt]
  · rw [k.lp, h.lp]
  · rw [k.pending, h.pending]
  · rw [k.slots, h.slots]
  · rw [k.dir, h.dir]
  · rw [k.active, h.active]
  · rw [k.activeDie, h.activeDie]
  · rw [k.activation, h.activation]
  · rw [k.outcome, h.outcome]
  · rw [k.compileBy, h.compileBy]
  · rw [k.enable, h.enable]
  · rw [k.number, h.number]
  · rw [k.press, h.press]
  · rw [k.billet, h.billet]
  · rw [k.stopRec, h.stopRec]
  · rw [k.presented, h.presented]
  · rw [k.results, h.results]
  · rw [k.compiled, h.compiled]
  · rw [k.seq, h.seq]
  · rw [k.issued, h.issued]
  · rw [k.timeout, h.timeout]
  · rw [k.lostM, h.lostM]
  · rw [k.recR, h.recR]

/-- The work along the profile keeps what the retirement of sections keeps. -/
theorem PieceFrame.section {s t : State} (h : PieceFrame s t) : SectionFrame s t where
  inReset := h.inReset
  lt := h.lt
  lp := h.lp
  pending := h.pending
  slots := h.slots
  dir := h.dir
  active := h.active
  activeDie := h.activeDie
  activation := h.activation
  outcome := h.outcome
  compileBy := h.compileBy
  enable := h.enable
  number := h.number
  press := h.press
  billet := h.billet
  stopRec := h.stopRec
  presented := h.presented
  results := h.results
  compiled := by rw [h.ge]
  seq := by rw [h.sa]
  issued := by rw [h.sa]
  timeout := by rw [h.hl]
  lostM := by rw [h.hl]
  recR := by rw [h.hl]

theorem State.testSlots_frame (s : State) : SectionFrame s s.testSlots := by constructor <;> rfl

theorem State.setHeads_frame (s : State) (hs : PerHead Head) : SectionFrame s (s.setHl { s.hl with heads := hs }) := by
  constructor <;> rfl

theorem State.setPend_frame (s : State) (a : Assembler) (h1 : a.seq = s.sa.seq) (h2 : a.issued = s.sa.issued) :
    SectionFrame s (s.setSa a) := by
  constructor <;> first | rfl | assumption

theorem State.sectionTemperature_frame (s : State) (p : PendSlot) (c : HeadSet) :
    SectionFrame s (s.sectionTemperature p c).2.2 := by
  unfold State.sectionTemperature
  split
  · dsimp only
    split
    · refine SectionFrame.trans ?_ (State.raise_frame _ _).section
      exact s.setPend_frame _ rfl rfl
    · exact s.setPend_frame _ rfl rfl
  · exact s.setPend_frame _ rfl rfl

theorem State.hand_frame (s : State) (p : PendSlot) (c : HeadSet) (t : Nat) (h : Bool) :
    SectionFrame s (s.hand p c t h) := by
  constructor <;> rfl

theorem State.countMisses_frame (s : State) (p : PendSlot) : SectionFrame s (s.countMisses p) := by
  unfold State.countMisses
  dsimp only
  split
  · exact (s.setHeads_frame _).trans (State.raise_frame _ _).section
  · exact s.setHeads_frame _

theorem State.retire_frame (s : State) (p : PendSlot) (c : HeadSet) : SectionFrame s (s.retire p c) := by
  unfold State.retire
  have h := s.sectionTemperature_frame p c
  generalize s.sectionTemperature p c = r at h
  obtain ⟨temp, held, u⟩ := r
  refine SectionFrame.trans ?_ (State.advance_frame _).section
  refine SectionFrame.trans ?_ (State.setPend_frame _ _ rfl rfl)
  refine SectionFrame.trans ?_ (State.testSlots_frame _)
  refine SectionFrame.trans ?_ (State.countMisses_frame _ _)
  exact SectionFrame.trans h (State.hand_frame _ _ _ _ _)

theorem State.retireUpTo_frame : ∀ (n : Nat) (s : State), SectionFrame s (State.retireUpTo n s)
  | 0, s => .refl s
  | n + 1, s => by
    unfold State.retireUpTo
    split
    · split
      · exact (s.retire_frame _ _).trans (State.retireUpTo_frame n _)
      · exact .refl s
    · exact .refl s

theorem State.cascade_frame (s : State) : SectionFrame s s.cascade := State.retireUpTo_frame _ _

theorem State.settleSections_frame (s : State) : SectionFrame s s.settleSections :=
  s.testSlots_frame.trans (State.cascade_frame _)

end Sys2Proof.Machine
end

