-- ==== Sys2Proof/Laws/LineCode.lean ====
section
/-! SUPPORT. The line code as sent (R187): lengths of the symbol runs, and the running disparity along them. -/

namespace Sys2Proof.Machine

@[simp] theorem idleSymbols_length (n : Nat) (rd : Disparity) : (idleSymbols n rd).length = n := by
  induction n generalizing rd with
  | zero => rfl
  | succ n ih => simp [idleSymbols, ih]

@[simp] theorem encodeBytes_length (rd : Disparity) (bs : List Byte) : (encodeBytes rd bs).length = bs.length := by
  induction bs generalizing rd with
  | nil => rfl
  | cons b bs ih => simp [encodeBytes, ih]

@[simp] theorem frameSymbols_length (rd : Disparity) (bs : List Byte) :
    (frameSymbols rd bs).length = bs.length + 1 := by simp [frameSymbols]

@[simp] theorem disparityOver_nil (rd : Disparity) : disparityOver [] rd = rd := rfl

@[simp] theorem disparityOver_cons (s : Symbol) (run : List Symbol) (rd : Disparity) :
    disparityOver (s :: run) rd = disparityOver run (disparityAfter s rd) := rfl

@[simp] theorem disparityOver_append (a b : List Symbol) (rd : Disparity) :
    disparityOver (a ++ b) rd = disparityOver b (disparityOver a rd) := by simp [disparityOver]

/-- The disparity that the two sub-blocks of a data symbol leave is the one its ten bits leave. -/
theorem encodeData_disparity :
    ∀ (rd : Disparity) (b : Byte), (encodeData rd b).2 = disparityAfter (encodeData rd b).1 rd := by
  intro rd
  cases rd <;> decide +kernel

/-! ### Receiving -/

theorem decodeData_encodeData : ∀ (rd : Disparity) (b : Byte), decodeData rd (encodeData rd b).1 = some b := by
  intro rd
  cases rd <;> decide +kernel

@[simp] theorem readSymbol_encodeData (rd : Disparity) (b : Byte) : readSymbol rd (encodeData rd b).1 = .data b := by
  simp [readSymbol, decodeData_encodeData]

@[simp] theorem readSymbol_frameStart (rd : Disparity) : readSymbol rd (frameStartSymbol rd) = .frameStart := by
  cases rd <;> decide +kernel

@[simp] theorem readSymbol_idle (rd : Disparity) : readSymbol rd (idleSymbol rd) = .idle := by
  cases rd <;> decide +kernel

theorem disparityHeard_of_valid {rd : Disparity} {s : Symbol} (h : isSymbolError rd s = false) :
    disparityHeard rd s = disparityAfter s rd := by simp [disparityHeard, h]

theorem isSymbolError_eq (rd : Disparity) (s : Symbol) :
    isSymbolError rd s = true ↔ readSymbol rd s = .symbolError := by simp [isSymbolError]

/-- A symbol that is neither form of K27.7 is read as no frame start, at whatever disparity. -/
theorem readSymbol_ne_frameStart {rd : Disparity} {s : Symbol} (h : ∀ r, s ≠ frameStartSymbol r) :
    readSymbol rd s ≠ .frameStart := by
  unfold readSymbol
  split
  · simp
  · rw [if_neg (h rd)]
    split <;> simp

/-- Between frames, symbols without a frame start only move the running disparity (R44, R169). -/
theorem Reception.read_gap (whole : List Byte → Bool) (gap : List Symbol) (h : ∀ s ∈ gap, ∀ r, s ≠ frameStartSymbol r)
    (rd : Disparity) (found : List LinkEvent) :
    gap.foldl (Reception.read whole) { rd := rd, frame := none, found := found } =
      { rd := gap.foldl disparityHeard rd, frame := none, found := found } := by
  induction gap generalizing rd with
  | nil => rfl
  | cons s gap ih =>
    have hs := readSymbol_ne_frameStart (rd := rd) (h s (by simp))
    have h1 : Reception.read whole { rd := rd, frame := none, found := found } s =
        { rd := disparityHeard rd s, frame := none, found := found } := by
      unfold Reception.read
      cases hr : readSymbol rd s <;> simp_all
    rw [List.foldl_cons, h1, ih fun x hx => h x (by simp [hx])]
    rfl

/-- Inside a frame, the data symbols of bytes add those bytes to it (R187). -/
theorem Reception.read_bytes (whole : List Byte → Bool) (bs acc : List Byte) (rd : Disparity) (found : List LinkEvent) :
    (encodeBytes rd bs).foldl (Reception.read whole) { rd := rd, frame := some acc, found := found } =
      { rd := (encodeBytes rd bs).foldl disparityHeard rd, frame := some (acc ++ bs), found := found } := by
  induction bs generalizing acc rd with
  | nil => simp [encodeBytes]
  | cons b bs ih =>
    have hd : disparityHeard rd (encodeData rd b).1 = (encodeData rd b).2 := by
      rw [disparityHeard_of_valid (by simp [isSymbolError]), encodeData_disparity]
    have h1 : Reception.read whole { rd := rd, frame := some acc, found := found } (encodeData rd b).1 =
        { rd := (encodeData rd b).2, frame := some (acc ++ [b]), found := found } := by
      simp [Reception.read, hd]
    simp only [encodeBytes, List.foldl_cons, h1, ih, hd, List.append_assoc, List.singleton_append]

/-- A frame behind symbols without a frame start is read as its bytes. -/
theorem Reception.read_frame (whole : List Byte → Bool) (gap : List Symbol) (bs : List Byte)
    (h : ∀ s ∈ gap, ∀ r, s ≠ frameStartSymbol r) (rd : Disparity) (found : List LinkEvent) :
    let run := gap ++ frameSymbols (gap.foldl disparityHeard rd) bs
    run.foldl (Reception.read whole) { rd := rd, frame := none, found := found } =
      { rd := run.foldl disparityHeard rd, frame := some bs, found := found } := by
  intro run
  have hs (r : Disparity) : disparityHeard r (frameStartSymbol r) = disparityAfter (frameStartSymbol r) r :=
    disparityHeard_of_valid (by simp [isSymbolError])
  simp only [run, List.foldl_append, Reception.read_gap whole gap h, frameSymbols, List.foldl_cons, hs]
  rw [show Reception.read whole { rd := gap.foldl disparityHeard rd, frame := none, found := found }
      (frameStartSymbol (gap.foldl disparityHeard rd)) =
      { rd := disparityAfter (frameStartSymbol (gap.foldl disparityHeard rd)) (gap.foldl disparityHeard rd),
        frame := some [], found := found } by simp [Reception.read, hs]]
  rw [Reception.read_bytes]
  simp

/-- The rows that bring a whole frame, or one that ended early: it is all that is found. -/
theorem hear_frame (whole : List Byte → Bool) (gap : List Symbol) (bs : List Byte)
    (h : ∀ s ∈ gap, ∀ r, s ≠ frameStartSymbol r) (rd : Disparity) :
    let run := gap ++ frameSymbols (gap.foldl disparityHeard rd) bs
    hear whole rd false true run = (run.foldl disparityHeard rd, [.frame bs]) := by
  intro run
  have := Reception.read_frame whole gap bs h rd []
  simp only at this
  simp [hear, run, this]

/-- Symbols without a frame start, between frames: nothing is found (R44, R169). -/
theorem hear_gap (whole : List Byte → Bool) (run : List Symbol) (h : ∀ s ∈ run, ∀ r, s ≠ frameStartSymbol r)
    (rd : Disparity) (ended : Bool) : hear whole rd false ended run = (run.foldl disparityHeard rd, []) := by
  simp [hear, Reception.read_gap whole run h]

/-- A symbol error in a frame that is not yet whole, whatever comes behind it but a frame start: the error is all that is
found (R45, R170). -/
theorem hear_error (whole : List Byte → Bool) (gap rest : List Symbol) (bs : List Byte) (bad : Symbol)
    (h : ∀ s ∈ gap, ∀ r, s ≠ frameStartSymbol r) (hr : ∀ s ∈ rest, ∀ r, s ≠ frameStartSymbol r)
    (hw : whole bs = false) (rd : Disparity) (ended : Bool) :
    let run := gap ++ frameSymbols (gap.foldl disparityHeard rd) bs
    isSymbolError (run.foldl disparityHeard rd) bad = true →
    hear whole rd false ended (run ++ bad :: rest) = ((run ++ bad :: rest).foldl disparityHeard rd, [.symbolError]) := by
  intro run hb
  have h1 := Reception.read_frame whole gap bs h rd []
  simp only at h1
  rw [isSymbolError_eq] at hb
  unfold hear
  simp only [Bool.false_eq_true, if_false]
  rw [List.foldl_append (l := run), List.foldl_cons]
  rw [show List.foldl (Reception.read whole) { rd := rd, frame := none, found := [] } run = _ from h1]
  rw [show Reception.read whole { rd := run.foldl disparityHeard rd, frame := some bs, found := [] } bad =
      { rd := disparityHeard (run.foldl disparityHeard rd) bad, frame := none, found := [.symbolError] } by
    simp [Reception.read, hb, hw]]
  rw [Reception.read_gap whole rest hr, List.foldl_append (l := run), List.foldl_cons]
  simp

/-- What the start of a frame does to the line code of its link. -/
theorem Encoder.send_spec (e : Encoder) (link : Nat) (bs : List Byte) :
    let idle := idleSymbols (Config.idleRun link e.started) e.rd
    let symbols := idle ++ frameSymbols (disparityOver idle e.rd) bs
    e.send link bs = { rd := disparityOver symbols e.rd, started := e.started + 1, symbols := symbols } := rfl

@[simp] theorem Encoder.send_started (e : Encoder) (link : Nat) (bs : List Byte) :
    (e.send link bs).started = e.started + 1 := rfl

@[simp] theorem Encoder.send_length (e : Encoder) (link : Nat) (bs : List Byte) :
    (e.send link bs).symbols.length = Config.idleRun link e.started + (bs.length + 1) := by simp [Encoder.send]

end Sys2Proof.Machine
end

