-- ==== Sys2Proof/Laws/LinePort.lean ====
section
/-! SUPPORT. What the Line Port does at the end of a step, and what the commands leave of it. -/

namespace Sys2Proof.Machine

/-! ### The transmitter and the decoder -/

/-- What starting a frame changes (R180): the transmitter and the source it empties. -/
theorem State.transmit_frame (s : State) :
    s.transmit.inReset = s.inReset ∧ s.transmit.lt = s.lt ∧ s.transmit.hl = s.hl ∧ s.transmit.sa = s.sa ∧
    s.transmit.ge = s.ge ∧ s.transmit.pk = s.pk ∧ s.transmit.pt = s.pt ∧ s.transmit.cc = s.cc ∧
    s.transmit.rq = s.rq ∧ s.transmit.pending = s.pending ∧ s.transmit.au.flags = s.au.flags ∧
    s.transmit.au.enable = s.au.enable ∧ s.transmit.au.matchAt = s.au.matchAt ∧
    s.transmit.lp.queue = s.lp.queue ∧ s.transmit.lp.error = s.lp.error ∧ s.transmit.lp.fault = s.lp.fault ∧
    s.transmit.lp.lock = s.lp.lock ∧ s.transmit.lp.rxRd = s.lp.rxRd ∧ s.transmit.lp.traceN = s.lp.traceN ∧ s.transmit.lp.decim = s.lp.decim := by
  unfold State.transmit
  split
  · simp
  · split <;> simp [State.startFrame]

@[simp] theorem State.transmit_inReset (s : State) : s.transmit.inReset = s.inReset := s.transmit_frame.1
@[simp] theorem State.transmit_lt (s : State) : s.transmit.lt = s.lt := s.transmit_frame.2.1
@[simp] theorem State.transmit_hl (s : State) : s.transmit.hl = s.hl := s.transmit_frame.2.2.1
@[simp] theorem State.transmit_sa (s : State) : s.transmit.sa = s.sa := s.transmit_frame.2.2.2.1
@[simp] theorem State.transmit_ge (s : State) : s.transmit.ge = s.ge := s.transmit_frame.2.2.2.2.1
@[simp] theorem State.transmit_pk (s : State) : s.transmit.pk = s.pk := s.transmit_frame.2.2.2.2.2.1
@[simp] theorem State.transmit_pt (s : State) : s.transmit.pt = s.pt := s.transmit_frame.2.2.2.2.2.2.1
@[simp] theorem State.transmit_cc (s : State) : s.transmit.cc = s.cc := s.transmit_frame.2.2.2.2.2.2.2.1
@[simp] theorem State.transmit_rq (s : State) : s.transmit.rq = s.rq := s.transmit_frame.2.2.2.2.2.2.2.2.1
@[simp] theorem State.transmit_pending (s : State) : s.transmit.pending = s.pending :=
  s.transmit_frame.2.2.2.2.2.2.2.2.2.1
@[simp] theorem State.transmit_flags (s : State) : s.transmit.au.flags = s.au.flags :=
  s.transmit_frame.2.2.2.2.2.2.2.2.2.2.1
@[simp] theorem State.transmit_enable (s : State) : s.transmit.au.enable = s.au.enable :=
  s.transmit_frame.2.2.2.2.2.2.2.2.2.2.2.1
@[simp] theorem State.transmit_queue (s : State) : s.transmit.lp.queue = s.lp.queue :=
  s.transmit_frame.2.2.2.2.2.2.2.2.2.2.2.2.2.1

/-- While the transmitter sends, it starts nothing (R180). -/
theorem State.transmit_busy (s : State) (f : OutFrame) (h : s.lp.tx = some f) : s.transmit = s := by
  simp [State.transmit, h]

/-- The decoder takes nothing while the reply slot is full or no frame is queued (R172). -/
theorem State.takeFrame_idle (s : State) (h : s.lp.slot = none → s.lp.queue = []) : s.takeFrame = s := by
  unfold State.takeFrame
  split
  · rename_i f rest hs hq
    simp [h hs] at hq
  · rfl

/-- With nothing for the decoder to take, a step ends with the transmitter's choice (R172, R180). -/
theorem State.settle_eq_transmit (s : State) (h1 : s.lp.slot = none → s.lp.queue = [])
    (h2 : s.lp.tx = none → s.lp.slot = none) : s.settle = s.transmit := by
  unfold State.settle
  rw [s.takeFrame_idle h1]
  apply State.takeFrame_idle
  intro _
  rw [State.transmit_queue]
  cases ht : s.lp.tx with
  | none => exact h1 (h2 ht)
  | some f =>
    rename_i hs
    rw [s.transmit_busy f ht] at hs
    exact h1 hs

/-- A sound Line Port has nothing to start and nothing to take. -/
theorem State.settle_sound (s : State) (h : s.LineSound) : s.settle = s := by
  rw [s.settle_eq_transmit h.2.1 (fun t => (h.2.2 t).1)]
  unfold State.transmit
  cases ht : s.lp.tx with
  | some f => rfl
  | none => obtain ⟨a, b, c⟩ := h.2.2 ht; simp [a, b, c]

/-! ### What commands leave of the Line Port -/

/-- A commit keeps the Line Port but for the decimation counter (R166). -/
theorem State.commit_lp (s : State) (c : Commit) : (s.commit c).lp = { s.lp with decim := 0 } := by
  have h := (s.closePiece_frame .dieEnd s.pt.settled).lp
  simp only [State.commit, State.commitContext, State.clearBusy, State.writeLeftLink, State.putSlot, State.setCc_lp,
    State.setLp_lp, State.setAu_lp, State.setLt_lp]
  split <;> split <;> simp [h]

/-- A delivered mark leaves the Line Port (R95). -/
theorem State.deliverMark_frame (s : State) (m : Mark) : PieceFrame s (s.deliverMark m).1 := by
  unfold State.deliverMark State.handLate
  split
  · split
    · split
      · split
        · exact s.lateCut_frame _ _
        · exact .refl s
      · exact .refl s
    · exact s.lateZone_frame m
  · split
    · exact .refl s
    · split
      · exact s.raise_frame _
      · exact s.setPk_frame _ rfl rfl rfl

theorem State.ramStop_lp (s : State) (a n : Nat) : (s.ramStop a n).st.lp = s.lp := by
  unfold State.ramStop
  dsimp only
  split
  · rfl
  · split <;> rfl
  all_goals
    split
    · rfl
    · exact (State.deliverMark_frame _ _).lp

theorem State.ramStart_lp (s : State) (a n b : Nat) : (s.ramStart a n b).st.lp = s.lp := by
  unfold State.ramStart
  dsimp only
  split
  · rfl
  · split <;> rfl
  all_goals
    split
    · rfl
    · split
      · split
        · rfl
        · exact (State.deliverMark_frame _ _).lp
      · rfl

theorem State.cutNotice_lp (s : State) (a n : Nat) : (s.cutNotice a n).st.lp = s.lp := by
  unfold State.cutNotice
  dsimp only
  split
  · rfl
  · rfl
  all_goals exact (State.deliverMark_frame _ _).lp

theorem State.onSlot_lp (s : State) (p : List Byte) (f : Fin 8 → Answer) (h : ∀ i, (f i).st.lp = s.lp) :
    (s.onSlot p f).st.lp = s.lp := by
  unfold State.onSlot; split
  · exact h _
  · rfl

theorem State.openSlot_lp (s : State) (i : Fin 8) : (s.openSlot i).st.lp = s.lp := by
  unfold State.openSlot; dsimp only; split
  · rfl
  · split <;> rfl

theorem State.writeParams_lp (s : State) (i : Fin 8) (r : List Byte) : (s.writeParams i r).st.lp = s.lp := by
  unfold State.writeParams; dsimp only; split
  · rfl
  · split
    · rfl
    · split <;> rfl

theorem State.writeProbes_lp (s : State) (i : Fin 8) (k : Nat) (r : List (List Byte)) :
    (s.writeProbes i k r).st.lp = s.lp := by
  unfold State.writeProbes; dsimp only; split
  · rfl
  · split
    · rfl
    · split
      · rfl
      · split <;> rfl

theorem State.writeGauges_lp (s : State) (i : Fin 8) (k : Nat) (r : List (List Byte)) :
    (s.writeGauges i k r).st.lp = s.lp := by
  unfold State.writeGauges; dsimp only; split
  · rfl
  · split
    · rfl
    · split
      · rfl
      · split <;> rfl

theorem State.sealSlot_lp (s : State) (i : Fin 8) : (s.sealSlot i).st.lp = s.lp := by
  unfold State.sealSlot; dsimp only; split
  · rfl
  · rfl
  · split <;> rfl

theorem State.eraseSlot_lp (s : State) (i : Fin 8) : (s.eraseSlot i).st.lp = s.lp := by
  unfold State.eraseSlot; dsimp only; split
  · rfl
  · split <;> rfl

theorem State.mapDie_lp (s : State) (d : Nat) (b e : Byte) : (s.mapDie d b e).st.lp = s.lp := by
  unfold State.mapDie; dsimp only; split
  · rfl
  · split
    · rfl
    · split <;> rfl

theorem State.unmapDie_lp (s : State) (d : Nat) : (s.unmapDie d).st.lp = s.lp := by
  unfold State.unmapDie; dsimp only; split
  · rfl
  · split <;> rfl

theorem State.setHeads_lp (s : State) (a b c d : Nat) : (s.setHeads a b c d).st.lp = s.lp := by
  unfold State.setHeads; dsimp only; split
  · rfl
  · split
    · rfl
    · exact (State.settleSections_frame _).lp

theorem State.setHeadCal_lp (s : State) (h : Byte) (x y z : Int) : (s.setHeadCal h x y z).st.lp = s.lp := by
  unfold State.setHeadCal; dsimp only; split
  · rfl
  · split <;> rfl

theorem State.setGeometry_lp (s : State) (p : List Byte) : (s.setGeometry p).st.lp = s.lp := by
  unfold State.setGeometry; split
  · rfl
  · rfl
  · rfl
  · rfl
  · split <;> rfl

/-- What DIE_CHANGE and REVERT may change of the Line Port: the decimation counter at a commit (R166). -/
theorem State.dieChange_lp (s : State) (d : Nat) :
    (s.dieChange d).st.lp = s.lp ∨ (s.dieChange d).st.lp = { s.lp with decim := 0 } := by
  unfold State.dieChange
  dsimp only
  split
  · exact .inl rfl
  · split
    · exact .inl rfl
    · split
      · exact .inl rfl
      · split
        · exact .inl rfl
        · split
          · exact .inl rfl
          · split
            · exact .inl rfl
            · exact .inr (State.commit_lp _ _)

theorem State.revertSwitch_lp (s : State) :
    s.revertSwitch.st.lp = s.lp ∨ s.revertSwitch.st.lp = { s.lp with decim := 0 } := by
  unfold State.revertSwitch
  dsimp only
  split
  · exact .inl rfl
  · split
    · exact .inl rfl
    · split
      · exact .inl rfl
      · split
        · exact .inl rfl
        · split
          · exact .inl rfl
          · split
            · exact .inl rfl
            · exact .inr (State.commit_lp _ _)

/-- What a command leaves of the Line Port: the queued frames, the receiver, the frame being sent and the line code; the reply slot is left
or emptied. -/
structure LineKept (s t : State) : Prop where
  queue : t.lp.queue = s.lp.queue
  lock : t.lp.lock = s.lp.lock
  rxRd : t.lp.rxRd = s.lp.rxRd
  tx : t.lp.tx = s.lp.tx
  enc : t.lp.enc = s.lp.enc
  slot : t.lp.slot = s.lp.slot ∨ t.lp.slot = none

theorem LineKept.of_lp {s t : State} (h : t.lp = s.lp) : LineKept s t := by
  constructor <;> simp [h]

theorem LineKept.of_decim {s t : State} (h : t.lp = s.lp ∨ t.lp = { s.lp with decim := 0 }) : LineKept s t := by
  rcases h with h | h <;> constructor <;> simp [h]

theorem State.runCommand_line (s : State) (c : Command) (a : Nat) (p : List Byte) :
    LineKept s (s.runCommand c a p).st := by
  cases c
  case identify => exact .of_lp rfl
  case sense => exact .of_lp rfl
  case getStatus => exact .of_lp rfl
  case setGeometry => exact .of_lp (s.setGeometry_lp p)
  case setHeads => exact .of_lp (s.setHeads_lp _ _ _ _)
  case setHeadCal => exact .of_lp (s.setHeadCal_lp _ _ _ _)
  case openSlot => exact .of_lp (s.onSlot_lp _ _ s.openSlot_lp)
  case writeParams => exact .of_lp (s.onSlot_lp _ _ fun i => s.writeParams_lp i _)
  case writeProbesFirst => exact .of_lp (s.onSlot_lp _ _ fun i => s.writeProbes_lp i _ _)
  case writeProbesNext => exact .of_lp (s.onSlot_lp _ _ fun i => s.writeProbes_lp i _ _)
  case writeGaugesFirst => exact .of_lp (s.onSlot_lp _ _ fun i => s.writeGauges_lp i _ _)
  case writeGaugesNext => exact .of_lp (s.onSlot_lp _ _ fun i => s.writeGauges_lp i _ _)
  case sealSlot => exact .of_lp (s.onSlot_lp _ _ s.sealSlot_lp)
  case eraseSlot => exact .of_lp (s.onSlot_lp _ _ s.eraseSlot_lp)
  case querySlot => exact .of_lp (s.onSlot_lp _ _ fun i => rfl)
  case mapDie => exact .of_lp (s.mapDie_lp _ _ _)
  case unmapDie => exact .of_lp (s.unmapDie_lp _)
  case dieChange => exact .of_decim (s.dieChange_lp _)
  case revert => exact .of_decim s.revertSwitch_lp
  case start => refine .of_lp ?_; simp only [State.runCommand, State.startEngine]; split <;> rfl
  case halt => refine .of_lp ?_; simp only [State.runCommand, State.haltEngine]; split <;> rfl
  case noteRamStop => exact .of_lp (s.ramStop_lp _ _)
  case noteRamStart => exact .of_lp (s.ramStart_lp _ _ _)
  case noteCut => exact .of_lp (s.cutNotice_lp _ _)
  case fetchFirst => refine .of_lp ?_; simp only [State.runCommand, State.fetchFirst]; split <;> rfl
  case fetchNext =>
    refine .of_lp ?_
    simp only [State.runCommand, State.fetchNext]
    split
    · rfl
    · split <;> rfl
  case setFetchPointer =>
    refine .of_lp ?_
    simp only [State.runCommand, State.setFetchPointer]
    split
    · rfl
    · split <;> rfl
  case release =>
    refine .of_lp ?_
    simp only [State.runCommand, State.release]
    split
    · rfl
    · split <;> rfl
  case setTrace =>
    simp only [State.runCommand, State.setTrace, State.taken]
    split <;> constructor <;> simp
  case setNotices => exact .of_lp rfl
  case ackAlerts =>
    refine .of_lp ?_
    simp only [State.runCommand, State.ackAlerts, State.reloadBurst, State.taken]
    split <;> rfl
  case setMatch =>
    refine .of_lp ?_
    simp only [State.runCommand, State.setMatch]
    split
    · split <;> rfl
    · split <;> rfl
    · rfl
  case resetEngine => constructor <;> simp [State.runCommand, State.resetEngine, State.softReset, State.taken]

/-- The same of a decoded frame (R173): a refusal at step 1 or 2 reaches no block. -/
theorem State.answerFrame_line (s : State) (f : CmdFrame) : LineKept s (s.answerFrame f).st := by
  unfold State.answerFrame
  split
  · exact .of_lp rfl
  · split
    · exact s.runCommand_line _ _ _
    · exact .of_lp rfl

/-- A good frame at a free decoder is decoded at once, and its reply takes the slot or the idle transmitter (R172, R173,
R180). -/
theorem State.goodCommand_settle (s : State) (h1 : s.lp.slot = none) (h2 : s.lp.queue = []) (code tag : Byte)
    (p : List Byte) :
    (s.goodCommand code tag p).settle =
      (s.answerFrame { code := code, tag := tag, payload := p, arrival := s.lt.time }).sent code tag p s.lt.time := by
  have hg : s.goodCommand code tag p = s.setLp { s.lp with
      queue := [{ code := code, tag := tag, payload := p, arrival := s.lt.time }] } := by
    simp [State.goodCommand, h2]
  have ht : (s.goodCommand code tag p).takeFrame =
      (s.answerFrame { code := code, tag := tag, payload := p, arrival := s.lt.time }).reply
        { code := code, tag := tag, payload := p, arrival := s.lt.time } := by
    have hs : s.setLp { s.lp with queue := [] } = s := by
      rw [← h2]; rfl
    rw [hg]
    unfold State.takeFrame
    split
    · rename_i f rest _ hq
      obtain ⟨rfl, rfl⟩ := List.cons.inj hq
      exact congrArg (fun u : State => (u.answerFrame _).reply _) hs
    · rename_i hno
      exact absurd rfl (hno _ [] h1)
  unfold State.settle Answer.sent
  rw [ht]
  apply State.takeFrame_idle
  intro _
  rw [State.transmit_queue]
  have hk := (s.answerFrame_line { code := code, tag := tag, payload := p, arrival := s.lt.time }).queue
  simp only [Answer.reply, State.setLp_lp]
  rw [hk, h2]

end Sys2Proof.Machine
end

