-- ==== Sys2Proof/Laws/Receive.lean ====
section
/-! SUPPORT. What a receiver's run of symbols does, each case said once: a frame, an error inside a frame, and symbols
between frames (R44, R45, R169, R170, R187). -/

namespace Sys2Proof.Machine

theorem Rule.noStart.spec {run : List Symbol} (h : Rule.noStart run) : ∀ x ∈ run, ∀ r, x ≠ frameStartSymbol r
  | x, hx, .minus => (h x hx).1
  | x, hx, .plus => (h x hx).2

theorem Rule.heard_append (rd : Disparity) (a b : List Symbol) :
    Rule.heard rd (a ++ b) = Rule.heard (Rule.heard rd a) b := by simp [Rule.heard]

/-- A receiver reads one frame. -/
theorem hear_framed (whole : List Byte → Bool) (rd : Disparity) (gap : List Symbol) (bs : List Byte)
    (h : Rule.noStart gap) : hear whole rd false true (Rule.framed rd gap bs) =
      (Rule.heard rd (Rule.framed rd gap bs), [.frame bs]) := hear_frame whole gap bs h.spec rd

/-- A receiver reads a symbol error inside a frame that is not yet whole. -/
theorem hear_framed_error (whole : List Byte → Bool) (rd : Disparity) (gap rest : List Symbol) (bs : List Byte)
    (bad : Symbol) (h : Rule.noStart gap) (hr : Rule.noStart rest) (hw : whole bs = false) (ended : Bool)
    (hb : isSymbolError (Rule.heard rd (Rule.framed rd gap bs)) bad = true) :
    hear whole rd false ended (Rule.framed rd gap bs ++ bad :: rest) =
      (Rule.heard rd (Rule.framed rd gap bs ++ bad :: rest), [.symbolError]) :=
  hear_error whole gap rest bs bad h.spec hr.spec hw rd ended hb

/-- A receiver reads a symbol error inside a frame whose frame-start symbol stood right before the run. -/
theorem hear_started_error (whole : List Byte → Bool) (rd : Disparity) (rest : List Symbol) (bs : List Byte)
    (bad : Symbol) (hr : Rule.noStart rest) (hw : whole bs = false) (ended : Bool)
    (hb : isSymbolError (Rule.heard rd (encodeBytes rd bs)) bad = true) :
    hear whole rd true ended (encodeBytes rd bs ++ bad :: rest) =
      (Rule.heard rd (encodeBytes rd bs ++ bad :: rest), [.symbolError]) := by
  rw [isSymbolError_eq] at hb
  unfold hear
  simp only [if_true]
  rw [List.foldl_append, List.foldl_cons, Reception.read_bytes]
  rw [show Reception.read whole
      { rd := (encodeBytes rd bs).foldl disparityHeard rd, frame := some ([] ++ bs), found := [] } bad =
      { rd := disparityHeard ((encodeBytes rd bs).foldl disparityHeard rd) bad, frame := none, found := [.symbolError] } by
    have hb' : readSymbol ((encodeBytes rd bs).foldl disparityHeard rd) bad = .symbolError := hb
    simp [Reception.read, hb', hw]]
  rw [Reception.read_gap whole rest hr.spec, Rule.heard_append]
  rfl

/-- A receiver reads symbols between frames. -/
theorem hear_noStart (whole : List Byte → Bool) (rd : Disparity) (run : List Symbol) (h : Rule.noStart run)
    (ended : Bool) : hear whole rd false ended run = (Rule.heard rd run, []) := hear_gap whole run h.spec rd ended

/-! ### The ports -/

/-- Without lock a receiver reads nothing (R44, R169). -/
@[simp] theorem State.headHears_unlocked (s : State) (h : Fin 4) (a b : Bool) (run : List Symbol)
    (hl : (s.head h).lock = false) : s.headHears h a b run = s := by simp [State.headHears, hl]

@[simp] theorem State.lineHears_unlocked (s : State) (a b : Bool) (run : List Symbol) (hl : s.lp.lock = false) :
    s.lineHears a b run = s := by simp [State.lineHears, hl]

/-- With lock, what the run holds takes effect at the disparity after it. -/
theorem State.headHears_of_hear (s : State) (h : Fin 4) (a b : Bool) (run : List Symbol) (hl : (s.head h).lock = true)
    {rd : Disparity} {found : List LinkEvent} (hh : hear sectionWhole (s.head h).rxRd a b run = (rd, found)) :
    s.headHears h a b run = found.foldl (State.headFinds h) (s.putHead h { s.head h with rxRd := rd }) := by
  simp [State.headHears, hl, hh]

theorem State.lineHears_of_hear (s : State) (a b : Bool) (run : List Symbol) (hl : s.lp.lock = true)
    {rd : Disparity} {found : List LinkEvent} (hh : hear lineWhole s.lp.rxRd a b run = (rd, found)) :
    s.lineHears a b run = found.foldl State.lineFinds (s.setLp { s.lp with rxRd := rd }) := by
  simp [State.lineHears, hl, hh]

theorem sectionWhole_false (bs : List Byte) (h : bs.length < 7 ∨ (natAt bs 5 2 ≤ 960 ∧ bs.length < 11 + 9 * natAt bs 5 2)) :
    sectionWhole bs = false := by simp only [sectionWhole, decide_eq_false_iff_not]; omega

theorem lineWhole_false (bs : List Byte) (h : bs.length < 5 ∨ (natAt bs 3 2 ≤ 1024 ∧ bs.length < 9 + natAt bs 3 2)) :
    lineWhole bs = false := by simp only [lineWhole, decide_eq_false_iff_not]; omega

end Sys2Proof.Machine
end

