-- ==== Sys2Proof/WellFormed.lean ====
section
/-! DEFINITION. Which commands can come about at all: the checks on a command's operands. -/

namespace Sys2Proof

/-- What is wrong with a command's operands. -/
inductive Defect where
  /-- A command frame's payload is longer than 1,024 bytes, so no good frame carries it (R170 check 3). -/
  | payloadTooLong
  /-- The code of an UNKNOWN_COMMAND names a command (R173 step 1). -/
  | codeNamesCommand
  /-- At neither disparity is the last of the symbols their only error, with no frame at its end before it (R187). -/
  | notOneError
  /-- At neither disparity do the symbols hold one section frame, of at most 8,651 bytes, and no symbol error (11.2). -/
  | notOneSectionFrame
  /-- At neither disparity do the symbols hold one line frame, of at most 1,033 bytes, and no symbol error (R185). -/
  | notOneLineFrame
  /-- The reset line was not low for 10 µs, so no reset is applied (R182). -/
  | lowTooShort
  deriving DecidableEq, Repr

/-- The defect `d` unless the test holds. -/
def require (ok : Bool) (d : Defect) : List Defect := if ok then [] else [d]

/-- The check of a command frame's payload. -/
def payloadDefects (payload : List Byte) : List Defect := require (decide (payload.length ≤ 1024)) .payloadTooLong

/-- Whether each symbol of a run is valid at the disparity that the symbols before it leave (R187). -/
def allValid : Disparity → List Symbol → Bool
  | _, [] => true
  | rd, s :: run => !Machine.isSymbolError rd s && allValid (Machine.disparityAfter s rd) run

/-- Whether a run of symbols and the pattern after it hold one symbol error, the pattern, at some disparity, and no frame
comes to its end before it (R187). -/
def endsInItsOnlyError (whole : List Byte → Bool) (inFrame : Bool) (run : List Symbol) (sym : Symbol) : Bool :=
  [Disparity.minus, .plus].any fun rd => allValid rd run &&
    Machine.isSymbolError (Machine.disparityOver run rd) sym && (Machine.hear whole rd inFrame false run).2.isEmpty

/-- Whether a run of symbols without an error holds one frame, of at most `n` bytes, at some disparity (R187). -/
def holdsOneFrame (whole : List Byte → Bool) (n : Nat) (run : List Symbol) : Bool :=
  [Disparity.minus, .plus].any fun rd => allValid rd run &&
    match (Machine.hear whole rd false true run).2 with
    | [.frame bs] => decide (bs.length ≤ n)
    | _ => false

/-- The defects of a command. -/
def Instr.defects : Instr → List Defect
  | .wheelCount _ _ => []
  | .sampleTick => []
  | .spacingTimerExpiry => []
  | .assemblyTimeoutExpiry _ => []
  | .sectionFrameReceived _ run => require (holdsOneFrame Machine.sectionWhole 8651 run) .notOneSectionFrame
  | .headLockLoss _ => []
  | .headSymbolError _ inFrame run sym => require (endsInItsOnlyError Machine.sectionWhole inFrame run sym) .notOneError
  | .sectionEvaluation => []
  | .sectionApplication => []
  | .compilationComplete => []
  | .lineFrameReceived run => require (holdsOneFrame Machine.lineWhole 1033 run) .notOneLineFrame
  | .lineLockLoss _ => []
  | .lineSymbolError inFrame run sym => require (endsInItsOnlyError Machine.lineWhole inFrame run sym) .notOneError
  | .transmitFrameEnd => []
  | .hardReset lowUs => require (decide (10 ≤ lowUs)) .lowTooShort
  | .hardResetRelease => []
  | .identify _ p => payloadDefects p
  | .sense _ p => payloadDefects p
  | .getStatus _ p => payloadDefects p
  | .setGeometry _ p => payloadDefects p
  | .setHeads _ p => payloadDefects p
  | .setHeadCal _ p => payloadDefects p
  | .openSlot _ p => payloadDefects p
  | .writeParams _ p => payloadDefects p
  | .writeProbesFirst _ p => payloadDefects p
  | .writeProbesNext _ p => payloadDefects p
  | .writeGaugesFirst _ p => payloadDefects p
  | .writeGaugesNext _ p => payloadDefects p
  | .sealSlot _ p => payloadDefects p
  | .eraseSlot _ p => payloadDefects p
  | .querySlot _ p => payloadDefects p
  | .mapDie _ p => payloadDefects p
  | .unmapDie _ p => payloadDefects p
  | .dieChange _ p => payloadDefects p
  | .revert _ p => payloadDefects p
  | .start _ p => payloadDefects p
  | .halt _ p => payloadDefects p
  | .noteRamStop _ p => payloadDefects p
  | .noteRamStart _ p => payloadDefects p
  | .noteCut _ p => payloadDefects p
  | .fetchFirst _ p => payloadDefects p
  | .fetchNext _ p => payloadDefects p
  | .setFetchPointer _ p => payloadDefects p
  | .release _ p => payloadDefects p
  | .setTrace _ p => payloadDefects p
  | .setNotices _ p => payloadDefects p
  | .ackAlerts _ p => payloadDefects p
  | .setMatch _ p => payloadDefects p
  | .resetEngine _ p => payloadDefects p
  | .unknownCommand code _ p => payloadDefects p ++ require (commandOfCode code).isNone .codeNamesCommand
  | .headLockGain _ => []
  | .lineLockGain => []

/-- Whether a command can come about as its row says. -/
def Instr.wellFormed (i : Instr) : Bool := i.defects.isEmpty

end Sys2Proof
end

