-- ==== Sys2Proof/Tests/Slice0.lean ====
section
/-! SUPPORT. Tests of single steps against the spec's worked figures, the refusals of WellFormed, and for each statement
with hypotheses a state that meets them. -/

namespace Sys2Proof.Tests

open Sys2Proof.Machine

set_option Elab.async false

/-! ### Helpers -/

/-- The state after a command; the state itself where the command stops. -/
def after (s : State) (i : Instr) : State := match exec i s with | .next t => t | _ => s

/-- The result code and the items of the reply being sent. -/
def sent (s : State) : Option (ResultCode × Items) :=
  match s.lp.tx with
  | some (.reply r) => some (r.summary.result, r.items)
  | _ => none

/-- Parameters in range. -/
def par : Params :=
  { echo := 2217, pitch := 20, spacing := 2000, binLen := 10000, frontCrop := 2000, backCrop := 1500, stopHalf := 2000,
    weldLead := 3000, weldLen := 12000, expansion := 2550, tRef := 200, tDef := 4800, minQuality := 20, policy := 15,
    ungaugedLimit := 20, burstLimit := 5 }

/-- A SURFACE probe of head 0, which gives y at quadrant 0. -/
def probe : ProbeRec :=
  { kind := .surface, head := 0, uLo := -20000, uHi := 20000, wLo := 120000, wHi := 160000, dir := 0, step := 0,
    minPts := 1, axis := .y }

/-- A POS_Y gauge on probe 0: the tolerances of G1 of 4.9. -/
def gauge : GaugeRec :=
  { enabledByte := 1, kind := .posY, a := 0, b := none, datum := 0, nominal := 40000, tolLo := -150, tolHi := 150,
    warn := 100 }

/-- A LOADING slot that passes every seal check. -/
def loading : DieSlot :=
  { DieSlot.fresh with
    state := .loading, gen := 5, params := some par, probes := [probe], probePtr := 1, gauges := [gauge], gaugePtr := 1 }

/-- A SEALED slot. -/
def closed : DieSlot := { loading with state := .sealed, digest := some 7 }

/-- An open piece whose current bin runs from 130,010 to 140,010. -/
def piece : Piece :=
  { number := 27, start := 130010, flags := 0, closed := [],
    cur := { index := 0, start := 130010, stop := 140010, billet := 0, tags := 0, sections := 0, notGauged := 0,
             tMin := none, tMax := none, coalesced := false, verdict := none,
             gauges := [{ idx := 0, worst := .ungraded, dev := none }] }
    bounded := true }

/-- The compiled copy of the slot above. -/
def compiled : Compiled :=
  { minQuality := 20, expansion := 2550, tRef := 200, probes := [{ probe := probe, quad := 0 }], gauges := [gauge] }

/-- A live machine at coordinate 136,000 in an engine state, slot 0 active. -/
def live (e : EngineState) : State :=
  { State.reset with
    lt := { State.reset.lt with
      acc := 136000 * 65536, pitch := some 20, spacing := some 2000, nextGrid := some 136020,
      history := List.replicate 64 136000 }
    ge := { compiled := some compiled, handed := [] }
    pk := { State.reset.pk with state := .pushing, billet := 417, gaugeBillet := 417 }
    pt := { State.reset.pt with settled := 136000, presented := 136000, piece := some piece, free := 1023, nextPiece := 28 }
    cc := { State.reset.cc with
      slots := State.reset.cc.slots.set 0 { closed with busy := true }
      dir := [{ die := 2217, slot := 0, enabled := true }]
      engine := e, active := some 0, activeDie := some 2217 } }

/-- The live machine with its line receiver and head receivers in lock and the heads ACTIVE. -/
def locked (e : EngineState) : State :=
  { live e with
    hl := { (live e).hl with heads := perHead fun _ => { Head.fresh with lock := true, status := .active } }
    lp := { State.reset.lp with lock := true } }

/-- A report of piece 401 with one bin. -/
def report : Report :=
  { number := 401, slot := 0, die := 2217, reason := .cut, flags := 0, start := 0, stop := 100,
    bins := [{ piece.cur with verdict := some .ungauged }] }

/-- The live machine with one report in its queue. -/
def reported : State :=
  { live .running with
    rq := { reports := [report], fetchPtr := 0, lastDropped := none }
    pt := { (live .running).pt with free := 1022 } }

/-- A section frame of a head. -/
def sectionBytes (h : Nat) (seq temp : Nat) (points : List Point) : List Byte :=
  withCrc (leBytes 1 h ++ leBytes 2 seq ++ leBytes 2 temp ++ leBytes 2 points.length ++
    points.flatMap fun p => leIntBytes 4 p.u ++ leBytes 4 p.w ++ leBytes 1 p.quality)

/-! ### WellFormed: each check refuses an ill-formed command -/

theorem test_wf_payloadTooLong : Instr.defects (.start 0 (List.replicate 1025 0)) = [.payloadTooLong] := by decide +kernel
theorem test_wf_codeNamesCommand : Instr.defects (.unknownCommand 50 0 []) = [.codeNamesCommand] := by decide +kernel
theorem test_wf_notOneError : Instr.defects (.headSymbolError 0 true [0] 0) = [.notOneError] ∧
    Instr.defects (.lineSymbolError true [] 0b1010101010) = [.notOneError] := by decide +kernel
theorem test_wf_notOneSectionFrame : Instr.defects (.sectionFrameReceived 0 [0b1010101010]) = [.notOneSectionFrame] ∧
    Instr.defects (.sectionFrameReceived 1 (frameSymbols .plus (sectionBytes 1 9 4850 []))) = [] := by decide +kernel
theorem test_wf_notOneLineFrame : Instr.defects (.lineFrameReceived [0b0011111010, 0b0011111010]) = [.notOneLineFrame] ∧
    Instr.defects (.lineFrameReceived (0b0011111010 :: frameSymbols .plus (withCrc [1, 5, 50, 0, 0]))) = [] := by
  decide +kernel
theorem test_wf_lowTooShort : Instr.defects (.hardReset 9) = [.lowTooShort] := by decide +kernel
theorem test_wf_good : Instr.wellFormed (.start 0 []) = true := by decide +kernel

/-! ### The worked figures of the spec -/

/-- R183: the CRC-32 over the digits 1 to 9. -/
theorem test_crc_check_value : crc32 [49, 50, 51, 52, 53, 54, 55, 56, 57] = 0xCBF43926#32 := by decide +kernel

/-- 2.2, worked figures: sample 3, and sample 63 marked ESTIMATED. -/
theorem test_lookup_sample_3 :
    LengthTracker.lookup { State.reset.lt with lastTick := 812000, history := List.range 64 } 812450 3180 = (3, false) := by
  decide +kernel
theorem test_lookup_estimated :
    LengthTracker.lookup { State.reset.lt with lastTick := 813000, history := List.range 64 } 812450 64000 =
      (63, true) := by decide +kernel

/-- 2.5: live coordinate 4,000 and residue 29,108; the sixth count of S = 6,554 after it gives 4,001 and residue 2,896. -/
def at4000 : State :=
  { State.reset with lt := { State.reset.lt with
      acc := 262173108 + 5 * 6554, geom := { Geometry.initial with scale := 6554 } } }
theorem test_wheel_moves : (after at4000 (.wheelCount true false)).lt.acc = 262212432 ∧
    (after at4000 (.wheelCount true false)).lt.live = 4001 ∧
    (after at4000 (.wheelCount true false)).lt.residue = 2896 := by decide +kernel
theorem test_wheel_reverse_adds_debt : (after at4000 (.wheelCount false true)).lt.debt = 1 ∧
    (after at4000 (.wheelCount false true)).lt.acc = at4000.lt.acc := by decide +kernel

/-- 2.5: the coordinate reaches 4,020 in RUNNING: trigger 118, next grid point 4,040, timer at t + 2,000. -/
def before4020 : State :=
  { locked .running with
    lt := { (live .running).lt with acc := 4020 * 65536 - 1, nextGrid := some 4020 }
    sa := { State.reset.sa with seq := 118 } }
theorem test_trigger_issued :
    let t := after before4020 (.wheelCount true false)
    (t.sa.pend.map PendSlot.coord, t.sa.seq, t.lt.nextGrid, t.lt.spacingExpiry, (t.head 2).trigOut) =
      ([4020], 119, some 4040, some 2000, some { seq := 118, coord := 4020 }) := by decide +kernel

/-- R31: the tick puts the live coordinate at index 0. -/
theorem test_sample_tick : (after (live .running) .sampleTick).lt.lastTick = 1000 ∧
    (after (live .running) .sampleTick).lt.history.head? = some 136000 := by decide +kernel
/-- R41: the timer stops. -/
theorem test_spacing_timer : (after { live .running with lt := { (live .running).lt with spacingExpiry := some 500 } }
    .spacingTimerExpiry).lt.spacingExpiry = none := by decide +kernel

/-- 3.9, section A: readings 4,861 and 4,858 give 4,860. -/
theorem test_mean_reading : meanReading [4861, 4858] = 4860 := by decide

/-- A pending section with number 9 at 136,000. -/
def pend : PendSlot :=
  { seq := 9, coord := 136000, frames := perHead fun _ => none, passed := 0, expiry := 500, contrib := none }
def waiting : State := { locked .running with sa := { State.reset.sa with pend := [pend], seq := 10, issued := 4 } }
/-- R56, R57: the frame of one of four ACTIVE heads is recorded and the slot goes on waiting. -/
theorem test_section_frame_placed :
    ((after waiting (.sectionFrameReceived 1 (frameSymbols .minus (sectionBytes 1 9 4850 [])))).sa.pend.map
      fun p => (p.frames.get 1).map SecFrame.temp) = [some (some 4850)] := by decide +kernel
/-- R45: a frame with a bad CRC leaves the fault CRC. -/
theorem test_section_frame_bad_crc :
    ((after waiting (.sectionFrameReceived 1 (frameSymbols .minus (leBytes 11 1)))).head 1).fault = .crc := by decide +kernel
/-- R48: an ACTIVE head that loses lock hunts. -/
theorem test_head_lock_loss : ((after waiting (.headLockLoss 2)).head 2).status = .hunting ∧
    ((after waiting (.headLockLoss 2)).head 2).fault = .lock := by decide +kernel
/-- R187: ten zeros are no symbol. -/
theorem test_head_symbol_error : ((after waiting (.headSymbolError 2 true [] 0)).head 2).fault = .symbol := by
  decide +kernel
theorem test_head_lock_gain : ((after (live .running) (.headLockGain 3)).head 3).lock = true := by decide +kernel
/-- R58, R59: without frames the section is handed with no contributing head. -/
theorem test_assembly_timeout : (after waiting (.assemblyTimeoutExpiry 9)).ge.handed.map Handed.contrib = [0] := by
  decide +kernel

/-- 4.9: P3's mean 140,013 with s = 150 and oy = 180,000 gives 39,966; cold 39,498, deviation −502, OUT_LO. -/
def section49 : Handed :=
  { seq := 4117, coord := 136000, temp := 4850, held := false, contrib := 15
    heads := ⟨some { points := [{ u := 0, w := 140012, quality := 20 }, { u := 1, w := 140013, quality := 20 }],
                     ox := 0, oy := 180000, scale := 150 }, none, none, none⟩ }
def handed : State :=
  { live .running with
    ge := { compiled := some compiled, handed := [section49] }
    pt := { (live .running).pt with awaited := [136000] } }
theorem test_section_evaluation : (after handed .sectionEvaluation).pt.results.map SecResult.gauges =
    [[{ idx := 0, cold := some 39498, dev := some (-502), cls := .outLo, saturated := false }]] := by decide +kernel
/-- 4.10, the three rows: clamps and classes. -/
theorem test_cold_values : coldValue 35000000 1200000 = 1159420 ∧ coldValue 9890000 (-1240000) = -1227856 ∧
    coldValue (-2000000) 500000 = 501002 := by decide +kernel
/-- R113: the section is counted in the current bin with its worst class and deviation. -/
theorem test_section_application :
    (after (after handed .sectionEvaluation) .sectionApplication).pt.piece.map (fun p => (p.cur.sections, p.cur.gauges)) =
      some (1, [{ idx := 0, worst := .out, dev := some (-502) }]) := by decide +kernel
/-- R137: READY with an open piece 28 at 0. -/
def switching : State :=
  { live .switching with
    pt := { (live .switching).pt with settled := 0, presented := 0, piece := none, free := 1024 }
    lt := { (live .switching).lt with acc := 0, pitch := none, spacing := none, nextGrid := some 0 }
    ge := { compiled := none, handed := [] } }
theorem test_compilation_complete : (after switching .compilationComplete).cc.engine = .ready ∧
    (after switching .compilationComplete).pt.piece.map Piece.number = some 28 ∧
    (after switching .compilationComplete).cc.outcome.kind = .degraded := by decide +kernel

/-! ### The line link -/

/-- A START frame as R185 lays it out: kind 1, tag 5, code 50, no payload. -/
def startFrame : List Byte := withCrc [1, 5, 50, 0, 0]
theorem test_line_frame : (after (locked .ready) (.lineFrameReceived (frameSymbols .minus startFrame))).cc.engine = .running := by decide +kernel
theorem test_line_frame_bad_crc :
    (after (locked .ready) (.lineFrameReceived (frameSymbols .minus [1, 5, 50, 0, 0, 0, 0, 0, 0]))).lp.fault = .crc := by decide +kernel
theorem test_line_lock_loss : (after (locked .ready) (.lineLockLoss true)).lp.fault = .lock ∧
    (after (locked .ready) (.lineLockLoss true)).lp.lock = false := by decide +kernel
theorem test_line_symbol_error : (after (locked .ready) (.lineSymbolError true [] 0)).lp.fault = .symbol := by
  decide +kernel
theorem test_line_lock_gain : (after (live .ready) .lineLockGain).lp.lock = true := by decide +kernel
/-- 10.8: reply 11 waits behind a trace; at its end it is started. -/
def busyLink : State :=
  after { live .running with lp := { State.reset.lp with tx := some (.alert
    { number := 0, newly := 1, flags := 1, engine := .running, settled := 0 }) } } (.getStatus 11 [])
theorem test_reply_waits : busyLink.lp.slot.map Reply.tag = some 11 ∧
    (after busyLink .transmitFrameEnd).lp.slot = none ∧ (sent (after busyLink .transmitFrameEnd)).isSome = true := by
  decide +kernel
theorem test_hard_reset : after (live .running) (.hardReset 10) = State.reset.setInReset true ∧
    after (live .running) (.hardReset 9) = live .running := by decide +kernel
theorem test_hard_reset_release : after (State.reset.setInReset true) .hardResetRelease = State.reset := by decide +kernel

/-- R187, with the symbols of the public code (log 10): D0.0, D21.5, D17.7 and D11.7 at both disparities; K28.5 is no data
symbol. -/
theorem test_line_code : (encodeData .minus 0).1 = 0b1001110100 ∧ (encodeData .plus 0).1 = 0b0110001011 ∧
    (encodeData .minus 181).1 = 0b1010101010 ∧ (encodeData .plus 181).1 = 0b1010101010 ∧
    (encodeData .minus 241).1 = 0b1000110111 ∧ (encodeData .plus 241).1 = 0b1000110001 ∧
    (encodeData .minus 235).1 = 0b1101001110 ∧ (encodeData .plus 235).1 = 0b1101001000 ∧
    decodeData .minus 0b0011111010 = none := by decide +kernel
/-- R187: a valid symbol of the wrong running disparity is a symbol error; K28.5 turns the disparity. -/
theorem test_wrong_disparity : isSymbolError .minus 0b1001110100 = false ∧ isSymbolError .plus 0b1001110100 = true ∧
    isSymbolError .plus 0b0011111010 = true ∧ readSymbol .plus 0b1100000101 = .idle ∧
    Rule.heard .minus [0b0011111010] = .plus := by decide +kernel
/-- R45, R187: a frame whose last symbol has the wrong running disparity ends as faulty with SYMBOL; a frame that the next
frame-start symbol ends early fails LENGTH. -/
theorem test_frame_symbols_judged :
    let run := frameSymbols .minus [1, 9] ++ [0b1001110100]
    ((after waiting (.sectionFrameReceived 1 run)).head 1).fault = .symbol ∧
    ((after waiting (.headSymbolError 1 false (frameSymbols .minus [1, 9]) 0b1001110100)).head 1).fault = .symbol ∧
    ((after waiting (.sectionFrameReceived 1 (frameSymbols .minus [1, 9]))).head 1).fault = .length := by decide +kernel

/-! ### Commands -/

/-- R178: the 16 bytes of the identity record (11.5). -/
theorem test_identify : sent (after State.reset (.identify 1 [])) = some (.ok, .identity) ∧
    Items.bytes .identity = [83, 20, 24, 0, 1, 8, 32, 64, 32, 4, 4, 16, 0, 4, 6, 4] := by decide +kernel
theorem test_sense : sent (after (after (after State.reset (.start 7 [])) .transmitFrameEnd) (.sense 8 [])) =
    some (.ok, .errorRecord (some { code := 50, tag := 7, result := .wrongState, detail := 0 })) := by decide +kernel
theorem test_get_status : sent (after (live .running) (.getStatus 1 [])) =
    some (.ok, .status (live .running).statusItems) := by decide +kernel
/-- R35: D_die 30,000 with D_saw 30,000 is refused with detail index 2. -/
theorem test_set_geometry_d_saw : (after State.reset (.setGeometry 1 (leBytes 4 30000 ++ leBytes 4 30000 ++
    leBytes 4 65536 ++ [0, 0, 1, 2, 3]))).lp.error.map ErrorRec.detail = some 2 := by decide +kernel
theorem test_set_geometry : (after State.reset (.setGeometry 1 (leBytes 4 30000 ++ leBytes 4 300 ++
    leBytes 4 6554 ++ [1, 0, 1, 2, 3]))).lt.geom.scale = 6554 := by decide +kernel
theorem test_set_heads : ((after (live .running) (.setHeads 1 [7, 5, 2, 2])).head 3).status = .disabled ∧
    (after (live .running) (.setHeads 1 [7, 5, 2, 2])).hl.lostM = 2 := by decide +kernel
/-- 4.9: the calibration of head 1. -/
theorem test_set_head_cal : ((after (live .running) (.setHeadCal 1 ([1] ++ leIntBytes 4 (-175000) ++ leIntBytes 4 0 ++
    leIntBytes 2 (-80)))).head 1).ox = -175000 := by decide +kernel
/-- 1.7: OPEN_SLOT on an EMPTY slot of generation 4 gives LOADING, generation 5. -/
theorem test_open_slot : ((after (State.reset.putSlot 3 { DieSlot.fresh with gen := 4 }) (.openSlot 1 [3])).dieSlot 3).gen
    = 5 := by decide +kernel
theorem test_open_slot_busy : sent (after (live .running) (.openSlot 1 [0])) = some (.busy, .summaryOnly) := by
  decide +kernel
theorem test_write_params : ((after (State.reset.putSlot 3 { loading with params := none })
    (.writeParams 1 (3 :: par.bytes))).dieSlot 3).params = some par := by decide +kernel
theorem test_write_probes_first : ((after (State.reset.putSlot 3 { loading with probes := [] })
    (.writeProbesFirst 1 (3 :: 1 :: probe.bytes))).dieSlot 3).probes = [probe] := by decide +kernel
theorem test_write_probes_next : ((after (State.reset.putSlot 3 loading)
    (.writeProbesNext 1 (3 :: 1 :: probe.bytes))).dieSlot 3).probePtr = 2 := by decide +kernel
theorem test_write_gauges_first : ((after (State.reset.putSlot 3 { loading with gauges := [] })
    (.writeGaugesFirst 1 (3 :: 1 :: gauge.bytes))).dieSlot 3).gauges = [gauge] := by decide +kernel
theorem test_write_gauges_next_overruns : sent (after (State.reset.putSlot 3 { loading with gaugePtr := 32 })
    (.writeGaugesNext 1 (3 :: 1 :: gauge.bytes))) = some (.tableOverrun, .summaryOnly) := by decide +kernel
/-- R17: a gauge whose probe does not exist fails check 3 with its index. -/
theorem test_seal_check_3 : sent (after (State.reset.putSlot 3 { loading with probes := [] }) (.sealSlot 1 [3])) =
    some (.sealCheck, .checkFailed 3 0) := by decide +kernel
theorem test_seal_slot : ((after (State.reset.putSlot 3 loading) (.sealSlot 1 [3])).dieSlot 3).state = .sealed := by
  decide +kernel
theorem test_erase_slot : (after (State.reset.putSlot 3 loading) (.eraseSlot 1 [3])).dieSlot 3 =
    { DieSlot.fresh with gen := 6 } := by decide +kernel
theorem test_query_slot : sent (after (live .running) (.querySlot 1 [0])) = some (.ok, .slot ((live .running).dieSlot 0).items)
    := by decide +kernel
theorem test_map_die : (after State.reset (.mapDie 1 [169, 8, 3, 1])).cc.dir =
    [{ die := 2217, slot := 3, enabled := true }] := by decide +kernel
theorem test_unmap_die : (after (live .running) (.unmapDie 1 [169, 8])).cc.dir = [] := by decide +kernel

/-- 7.7: die 2240 in slot 5 at generation 9, slot 0 left at generation 5, the press STOPPED. -/
def changing : State :=
  let s := live .ready
  let s := s.putSlot 5 { closed with gen := 9 }
  let s := s.setPk { s.pk with state := .stopped }
  s.setCc { s.cc with dir := s.cc.dir ++ [{ die := 2240, slot := 5, enabled := true }] }
theorem test_die_change : (after changing (.dieChange 1 [192, 8])).cc.engine = .switching ∧
    ((after changing (.dieChange 1 [192, 8])).dieSlot 5).link = some { slot := 0, gen := 5 } ∧
    (after changing (.dieChange 1 [192, 8])).rq.reports.map Report.reason = [.dieEnd] := by decide +kernel
theorem test_die_change_pushing : sent (after (live .ready) (.dieChange 1 [169, 8])) = some (.wrongState, .checkFailed 2 0)
    := by decide +kernel
/-- 7.7: slot 5 active with a link to slot 0; REVERT goes back to it and leaves slot 5 without a link. -/
def linked : State :=
  let s := changing
  let s := s.putSlot 0 closed
  let s := s.putSlot 5 { closed with gen := 9, busy := true, link := some { slot := 0, gen := 5 } }
  s.setCc { s.cc with active := some 5, activeDie := some 2240, activation := s.cc.activation.set 0 (some 2217) }
theorem test_revert : (after linked (.revert 1 [])).cc.activeDie = some 2217 ∧
    ((after linked (.revert 1 [])).dieSlot 5).link = none ∧ ((after linked (.revert 1 [])).dieSlot 0).busy = true := by
  decide +kernel
theorem test_revert_no_link : sent (after changing (.revert 1 [])) = some (.noLink, .checkFailed 2 0) := by decide +kernel
theorem test_start : (after (live .ready) (.start 1 [])).cc.engine = .running := by decide +kernel
theorem test_start_idle : sent (after State.reset (.start 1 [])) = some (.wrongState, .summaryOnly) := by decide +kernel
theorem test_halt : (after (live .running) (.halt 1 [])).cc.haltBin = some { piece := 27, bin := 0 } := by decide +kernel

/-- 5.6: C = 40,000 with D_die = 100,000 gives STOP 138,000 to 142,000. -/
def at40000 (e : EngineState) : State :=
  { live e with lt := { (live e).lt with history := List.replicate 64 40000 } }
theorem test_ram_stop : (after (at40000 .running) (.noteRamStop 1 [0, 0])).pk.queue =
    [{ kind := .stop, start := 138000, stop := 142000, billet := none, est := false }] := by decide +kernel
/-- 5.6: billet 418 after the stop gives WELD 143,000 to 155,000. -/
def stopped : State :=
  let s := at40000 .running
  s.setPk { s.pk with state := .stopped, stopRec := some { coord := 140000, est := false } }
theorem test_ram_start : (after stopped (.noteRamStart 1 [0, 0, 162, 1])).pk.queue =
    [{ kind := .weld, start := 143000, stop := 155000, billet := some 418, est := false }] := by decide +kernel
/-- 5.6: D_saw = 50,000; the cut at 90,010 lies below this piece's start and is dropped. -/
theorem test_cut_dropped : (sent (after (at40000 .running) (.noteCut 1 [0, 0]))).map Prod.fst = some .noEffect := by
  decide +kernel
/-- R119: a late cut closes the piece at 135,000 and opens the next one there. -/
def lateCutState : State := { live .running with lt := { (live .running).lt with history := List.replicate 64 85000 } }
theorem test_cut_late : (after lateCutState (.noteCut 1 [0, 0])).pt.piece.map Piece.start = some 135000 ∧
    (after lateCutState (.noteCut 1 [0, 0])).rq.reports.map Report.stop = [135000] := by decide +kernel

theorem test_fetch_first : (after reported (.fetchFirst 1 [])).rq.fetchPtr = 1 := by decide +kernel
/-- 9.6: at the report's end FETCH_NEXT is answered NO_EFFECT. -/
theorem test_fetch_next_at_end : (sent (after (reported.setRq { reported.rq with fetchPtr := 1 }) (.fetchNext 1 []))).map
    Prod.fst = some .noEffect := by decide +kernel
theorem test_set_fetch_pointer : sent (after reported (.setFetchPointer 1 [2, 0])) =
    some (.badValue, .fetchPointer 401 1 0) := by decide +kernel
theorem test_release : (after reported (.release 1 [0, 0])).pt.free = 1023 ∧
    sent (after reported (.release 1 [0, 0])) = some (.ok, .released (some 401) 1 none none) := by decide +kernel
/-- 9.7: N = 4. -/
theorem test_set_trace : (after (live .running) (.setTrace 1 [4])).lp.traceN = 4 := by decide +kernel
/-- 8.6: acknowledging the only newly set flag withdraws the pending frame and keeps the alert number. -/
def alerting : State :=
  { live .running with
    au := { flags := 9, enable := 9, newly := some 8, number := 41, matchAt := none }
    pt := { (live .running).pt with burst := 5 }
    lp := { State.reset.lp with tx := some (.alert
      { number := 40, newly := 1, flags := 1, engine := .running, settled := 0 }) } }
theorem test_ack_alerts : (after alerting (.ackAlerts 1 [8, 0])).au =
      { flags := 1, enable := 9, newly := none, number := 41, matchAt := none } ∧
    (after alerting (.ackAlerts 1 [8, 0])).pt.burst = 0 := by decide +kernel
theorem test_set_notices : (after alerting (.setNotices 1 [1, 0])).au.newly = none := by decide +kernel
/-- 8.7: ARM above the settled coordinate is taken, at or below it refused with detail index 1. -/
theorem test_set_match : (after (live .running) (.setMatch 1 (1 :: leBytes 4 250000))).au.matchAt = some 250000 := by
  decide +kernel
theorem test_set_match_below : sent (after (live .running) (.setMatch 1 (1 :: leBytes 4 136000))) =
    some (.badValue, .matchState none 136000) := by decide +kernel
theorem test_reset_engine : (after (live .running) (.resetEngine 1 [])).cc.engine = .idle ∧
    ((after (live .running) (.resetEngine 1 [])).dieSlot 0).busy = false ∧
    (after (live .running) (.resetEngine 1 [])).rq.reports = [] := by decide +kernel
theorem test_unknown_command : sent (after State.reset (.unknownCommand 0 1 [])) = some (.unknownCommand, .summaryOnly) := by
  decide +kernel

/-! ### Witnesses: the hypotheses of each statement are met together -/

theorem live_listening (e : EngineState) : (live e).Listening := ⟨rfl, rfl, rfl⟩
theorem live_drained (e : EngineState) : (live e).Drained := ⟨rfl, fun _ => rfl, fun _ => rfl⟩
theorem locked_drained (e : EngineState) : (locked e).Drained := ⟨rfl, fun _ => rfl, fun _ => rfl⟩

theorem witness_StepTakesTheFrontCommand : (State.reset.setPending [.sampleTick]).pending = .sampleTick :: [] := rfl

/-- The clauses: under reset; before the tick; at the tick. -/
theorem witness_IdleStepPassesOneMicrosecond :
    (State.reset.setInReset true).pending = [] ∧ (State.reset.setInReset true).inReset = true ∧
    (State.reset.pending = [] ∧ State.reset.inReset = false ∧ ∀ d ∈ State.reset.dueList, State.reset.lt.time + 1 < d.1) ∧
    (let s := State.reset.setLt { State.reset.lt with time := 999 }
     s.pending = [] ∧ s.inReset = false ∧ s.LineSound ∧ s.lt.lastTick + 1000 = s.lt.time + 1 ∧
      ∀ d ∈ s.dueList, d.2 ≠ .sample → s.lt.time + 1 < d.1) := by
  refine ⟨rfl, rfl, ⟨rfl, rfl, by decide +kernel⟩, rfl, rfl, ⟨by decide +kernel, fun _ => rfl, fun _ => ⟨rfl, rfl, rfl⟩⟩,
    rfl, by decide +kernel⟩

theorem witness_NoEventUnderReset : (State.reset.setInReset true).inReset = true ∧
    (∀ n, Instr.sampleTick ≠ .hardReset n) ∧ Instr.sampleTick ≠ .hardResetRelease := by
  refine ⟨rfl, fun _ => by simp, by simp⟩

theorem witness_HardResetAndRelease : 10 ≤ 10 ∧ 9 < 10 := by decide

/-- The live machine with a START waiting: a sound state that steps. -/
def stepping : State := (live .ready).setPending [.start 1 []]
theorem stepping_steps : ∃ t, step stepping = .next t := ⟨_, rfl⟩
theorem witness_LineLawKept : stepping.LineSound ∧ ∃ t, step stepping = .next t :=
  ⟨⟨by decide +kernel, fun _ => rfl, fun _ => ⟨rfl, rfl, rfl⟩⟩, stepping_steps⟩
/-- With a pending alert frame behind a frame being sent. -/
theorem witness_AlertLawKept : (alerting.setPending [.ackAlerts 1 [8, 0]]).AlertSound ∧
    ∃ t, step (alerting.setPending [.ackAlerts 1 [8, 0]]) = .next t := by
  refine ⟨?_, _, rfl⟩
  intro n h
  obtain rfl : (8 : FlagSet) = n := Option.some.inj h
  decide +kernel
theorem witness_BusyLawKept : stepping.BusySound ∧ ∃ t, step stepping = .next t := by
  refine ⟨⟨by decide +kernel, by decide +kernel, by decide +kernel⟩, stepping_steps⟩
theorem witness_PoolLawKept : stepping.PoolSound ∧ ∃ t, step stepping = .next t := by
  refine ⟨⟨by decide +kernel, by decide +kernel, by decide +kernel, by decide +kernel, by decide +kernel⟩, stepping_steps⟩
/-- With a mark in the queue. -/
def marked : State := after (at40000 .running) (.noteRamStop 1 [0, 0])
theorem witness_MarkLawKept : marked.MarksSound ∧ ∃ t, step (marked.setPending [.wheelCount true false]) = .next t := by
  refine ⟨⟨by decide +kernel, by decide +kernel, by decide +kernel⟩, _, rfl⟩
theorem stepping_coordSound : stepping.CoordSound := by
  refine ⟨?_, ?_, ?_, ?_, ?_, ?_, ?_, ?_, ?_⟩ <;> decide +kernel
theorem witness_CoordLawKept : stepping.CoordSound ∧ ∃ t, step stepping = .next t :=
  ⟨stepping_coordSound, stepping_steps⟩
theorem witness_HistoryLawKept : stepping.CoordSound ∧ stepping.HistorySound ∧ ∃ t, step stepping = .next t :=
  ⟨stepping_coordSound, ⟨by decide +kernel, by decide +kernel, by decide +kernel⟩, stepping_steps⟩
theorem witness_SlotLawKept : stepping.SlotsSound ∧ ∃ t, step stepping = .next t := by
  refine ⟨⟨?_, by decide +kernel, by decide +kernel⟩, stepping_steps⟩
  unfold DieSlot.Sound
  decide +kernel

/-- A fixed length, and the table writes' count of 0, which stands for 16 records. -/
theorem witness_CommandTakenAtOnce : (live .ready).Listening ∧ lengthOk .start [] = true ∧
    lengthOk .writeProbesFirst (3 :: 0 :: List.replicate 400 0) = true := by
  refine ⟨live_listening _, by decide +kernel, by decide +kernel⟩
theorem witness_RefusedBeforeAnyBlock : (live .ready).Listening ∧ commandOfCode 0 = none ∧ commandOfCode 255 = none ∧
    lengthOk .start [0] = false ∧ lengthOk .writeProbesFirst (3 :: 16 :: List.replicate 400 0) = false := by
  refine ⟨live_listening _, by decide +kernel, by decide +kernel, by decide +kernel, by decide +kernel⟩
/-- Three and four frames queued behind reply 11. -/
def threeQueued : State := after (after (after busyLink (.fetchNext 12 [])) (.start 13 [])) (.start 14 [])
def fourQueued : State := after threeQueued (.start 15 [])
theorem witness_FrameWaitsOrOverflows :
    (threeQueued.inReset = false ∧ threeQueued.lp.slot.isSome = true ∧ threeQueued.lp.tx.isSome = true ∧
      threeQueued.lp.queue.length = 3) ∧
    (fourQueued.inReset = false ∧ fourQueued.lp.slot.isSome = true ∧ fourQueued.lp.tx.isSome = true ∧
      fourQueued.lp.queue.length = 4) := by decide +kernel
theorem witness_ReplyFormed : (live .ready).lp.tx = none ∧ busyLink.lp.tx.isSome = true := by decide +kernel
/-- The five clauses: a reply alone, a reply before a queued frame, an alert, a trace, nothing. -/
theorem witness_TransmitterOrder :
    (busyLink.inReset = false ∧ busyLink.lp.slot.isSome = true ∧ busyLink.lp.queue = []) ∧
    (threeQueued.lp.slot.isSome = true ∧ threeQueued.lp.queue ≠ []) ∧
    (alerting.lp.slot = none ∧ alerting.lp.queue = [] ∧ alerting.au.newly = some 8) ∧
    (let trace : Trace := { seq := 911, coord := 0, temp := 0, held := false, piece := 27, gauges := [] }
     let s := (live .running).setLp { (live .running).lp with traceBuf := some trace }
     s.lp.slot = none ∧ s.lp.queue = [] ∧ s.au.newly = none ∧ s.lp.traceBuf.isSome = true) ∧
    ((live .running).lp.slot = none ∧ (live .running).au.newly = none ∧ (live .running).lp.traceBuf = none) := by
  decide +kernel
theorem witness_LineFrameIsItsCommand : (locked .ready).lp.lock = true ∧ (List.replicate 1024 (0 : Byte)).length ≤ 1024 ∧
    (locked .ready).Listening ∧ lengthOk .start [] = true ∧ (locked .ready).inReset = false ∧ Rule.noStart [] ∧
    Rule.noStart [0b0011111010, 0b1100000101] :=
  ⟨rfl, by decide +kernel, ⟨rfl, rfl, rfl⟩, rfl, rfl, by decide, by decide⟩
/-- A frame that fails a check; symbols that end in an error inside a frame, behind its frame-start symbol and in the run
after it, with an idle symbol before and behind; symbols between frames; a receiver without lock. -/
theorem witness_FaultyLineFrame : (locked .ready).Drained ∧ (locked .ready).lp.lock = true ∧
    checkLineFrame [2, 0, 0, 0, 0] = .error .kind ∧ (live .ready).Drained ∧ (live .ready).lp.lock = false ∧
    Rule.noStart [0b0011111010] ∧ (natAt [1, 5, 50, 0, 0, 7, 7, 7] 3 2 ≤ 1024 ∧ [1, 5, 50, 0, 0, 7, 7, 7].length < 9 + 0) ∧
    isSymbolError (Rule.heard (locked .ready).lp.rxRd (Rule.framed (locked .ready).lp.rxRd [0b0011111010] [1, 5])) 0 = true ∧
    (Rule.framed (locked .ready).lp.rxRd [0b0011111010] [1, 5] ++ [0]) ++ [0b0011111010] =
      Rule.framed (locked .ready).lp.rxRd [0b0011111010] [1, 5] ++ 0 :: [0b0011111010] ∧
    isSymbolError (Rule.heard (locked .ready).lp.rxRd (encodeBytes (locked .ready).lp.rxRd [1, 5])) 0 = true ∧
    Rule.noStart ([0b0011111010] ++ [0]) := by
  refine ⟨locked_drained _, rfl, by decide +kernel, live_drained _, rfl, by decide, ⟨by decide +kernel, by decide⟩,
    by decide +kernel, rfl, by decide +kernel, by decide⟩
/-- Payload lengths at the limits, a short frame, a wrong and a right CRC. -/
theorem witness_LineCheckOrder : (1025 < 65536 ∧ 1024 < 1025) ∧ (1024 ≤ 1024 ∧ (List.replicate 1027 (0 : Byte)).length < 1024 + 4) ∧
    crcMatches ([1, 5, 50] ++ leBytes 2 0 ++ [0, 0, 0, 0]) 5 = false ∧
    crcMatches ([1, 5, 50] ++ leBytes 2 0 ++ crcBytes [1, 5, 50, 0, 0]) 5 = true := by
  refine ⟨by decide, ⟨by decide, by decide +kernel⟩, by decide +kernel, by decide +kernel⟩

/-- Outstanding debt; the limit condition; a scale that does not move the coordinate; both directions. -/
theorem witness_WheelCountHoldsTheCoordinate :
    ((live .running).setLt { (live .running).lt with debt := 65535 }).Drained ∧
    ((live .running).setLt { (live .running).lt with limit := true, acc := maxAcc }).Drained ∧
    (at4000.Drained ∧ at4000.lt.debt = 0 ∧ at4000.lt.limit = false ∧
      min ((at4000.lt.acc - 6554) + at4000.lt.geom.scale) 281474976710655 / 65536 = (at4000.lt.acc - 6554) / 65536) := by
  refine ⟨⟨rfl, fun _ => rfl, fun _ => rfl⟩, ⟨rfl, fun _ => rfl, fun _ => rfl⟩, ⟨rfl, fun _ => rfl, fun _ => rfl⟩, rfl, rfl,
    by decide +kernel⟩
/-- The coordinate reaches the grid point: with no slot pending and with a WAITING one; without an ACTIVE head; and the limit,
where no trigger is issued. -/
theorem witness_WheelCountMovesTheCoordinate :
    (before4020.Drained ∧ before4020.lt.debt = 0 ∧ before4020.lt.limit = false ∧ before4020.lt.pitch = some 20 ∧
      before4020.lt.nextGrid = some 4020 ∧
      (if before4020.lt.geom.dir = .phaseALeads then (!before4020.lt.phB, before4020.lt.phA)
        else (before4020.lt.phB, !before4020.lt.phA)) = (true, false) ∧
      min (before4020.lt.acc + before4020.lt.geom.scale) 281474976710655 / 65536 ≠ before4020.lt.acc / 65536 ∧
      before4020.cc.engine = .running ∧ before4020.lt.spacingExpiry = none ∧ before4020.sa.pend = [] ∧
      (before4020.head 0).status = .active) ∧
    (let s := before4020.setSa { before4020.sa with pend := [pend] }
     s.Drained ∧ s.sa.pend.length < 4 ∧ ∀ q ∈ s.sa.pend, q.contrib = none) ∧
    (let s := before4020.setHl (live .running).hl
     s.Drained ∧ s.sa.pend = [] ∧ ∀ h, (s.head h).status ≠ .active) ∧
    min (281474976710655 - 65536 + 65536) 281474976710655 / 65536 = 4294967295 := by
  refine ⟨⟨⟨rfl, fun _ => rfl, fun _ => rfl⟩, rfl, rfl, rfl, rfl, rfl, by decide +kernel, rfl, rfl, rfl, rfl⟩,
    ⟨⟨rfl, fun _ => rfl, fun _ => rfl⟩, by decide +kernel, by decide +kernel⟩,
    ⟨⟨rfl, fun _ => rfl, fun _ => rfl⟩, rfl, by decide +kernel⟩, by decide +kernel⟩
theorem witness_TickAndSpacingTimer :
    ((live .running).Drained ∧ (live .running).nextDue ((live .running).lt.lastTick + 1000) = none ∧
      (live .running).lt.spacingExpiry = none) ∧
    (let s := (live .running).setLt { (live .running).lt with spacingExpiry := some 500 }
     s.Drained ∧ s.lt.spacingExpiry = some 500 ∧ s.nextDue 500 = none) := by
  refine ⟨⟨live_drained _, by decide +kernel, rfl⟩, ⟨rfl, fun _ => rfl, fun _ => rfl⟩, rfl, by decide +kernel⟩
/-- A at 0, 1, 1,000, 1,001, 63,000 and 63,001 µs. -/
theorem witness_LookupOfAnEvent : ((0 : Int) ≤ 0) ∧ ((1000 * 1 - 1000 : Int) < 1 ∧ (1 : Int) ≤ 1000 * 1) ∧
    ((1000 * 1 - 1000 : Int) < 1000 ∧ (1000 : Int) ≤ 1000 * 1) ∧ ((1000 * 2 - 1000 : Int) < 1001 ∧ (1001 : Int) ≤ 1000 * 2) ∧
    ((1000 * 63 - 1000 : Int) < 63000 ∧ (63000 : Int) ≤ 1000 * 63) ∧ (63000 : Int) < 63001 := by decide
theorem witness_SetGeometry : (live .switching).Listening ∧ (live .switching).cc.engine = .switching ∧
    (live .halting).Listening ∧ (live .halting).cc.engine.tracks = true ∧ State.reset.Listening ∧
    State.reset.cc.engine = .idle ∧ (10000 ≤ 10000 ∧ 9999 < 10000) ∧ ¬ (10000 ≤ 600001 ∧ 600001 ≤ 600000) ∧
    (3 : Byte).toNat = (3 : Fin 4).val ∧ 3 < (4 : Byte).toNat := by
  refine ⟨live_listening _, rfl, live_listening _, rfl, ⟨rfl, rfl, rfl⟩, rfl, by decide, by decide, by decide, by decide⟩

/-- A good frame without points of head 1, number 9, no reading. -/
def goodBytes : List Byte := sectionBytes 1 9 65535 []
def goodFrame : GoodFrame := { seq := 9, frame := { temp := none, points := [] } }
theorem goodBytes_good : checkSectionFrame 1 goodBytes = .ok goodFrame := by decide +kernel
def lostHead (recov : Nat) : State := (locked .running).putHead 1 { (locked .running).head 1 with status := .lost, recov := recov }
/-- A receiver without lock; a frame that fails a check; a good frame for a HUNTING, LOST (in and out of the window, below
and at R) and ACTIVE head. -/
theorem witness_FaultyOrStaleSectionFrame :
    ((live .running).Drained ∧ ((live .running).head 1).lock = false) ∧
    ((locked .running).Drained ∧ ((locked .running).head 1).lock = true ∧ checkSectionFrame 1 [0] = .error .length ∧
      ((locked .running).head 1).status = .active ∧ (locked .running).sa.pend = []) ∧
    (((locked .running).putHead 1 { (locked .running).head 1 with status := .hunting }).head 1).status = .hunting ∧
    (((lostHead 14).head 1).status = .lost ∧ ((lostHead 14).head 1).recov + 1 < (lostHead 14).hl.recR ∧
      ¬ ∃ k < min (lostHead 14).sa.issued 4, (9 : Seq) = (lostHead 14).sa.seq - 1 - BitVec.ofNat 16 k) ∧
    Rule.noStart [0b0011111010] ∧
    (let s := (lostHead 15).setSa { (lostHead 15).sa with seq := 10, issued := 4 }
     (∃ k < min s.sa.issued 4, (9 : Seq) = s.sa.seq - 1 - BitVec.ofNat 16 k) ∧ s.hl.recR ≤ (s.head 1).recov + 1 ∧
      s.sa.pend = []) ∧
    checkSectionFrame 1 goodBytes = .ok goodFrame := by
  refine ⟨⟨live_drained _, rfl⟩, ⟨locked_drained _, rfl, by decide +kernel, rfl, rfl⟩, rfl,
    ⟨rfl, by decide +kernel, by decide +kernel⟩, by decide, ⟨⟨0, by decide +kernel⟩, by decide +kernel, rfl⟩, goodBytes_good⟩
/-- Three other ACTIVE heads waited for, behind an older slot too; none, the others HUNTING; and one passed over, which
reaches M at its miss while the no-reading run reaches 200. -/
def alone : State :=
  let hunting := fun h => { waiting.head h with status := .hunting }
  waiting.setHl { waiting.hl with heads := ⟨hunting 0, waiting.head 1, hunting 2, hunting 3⟩ }
def older : PendSlot := { pend with seq := 8, coord := 135980, expiry := 400 }
def passing : PendSlot := { pend with passed := 1 }
def losing : State :=
  (alone.putHead 0 { waiting.head 0 with miss := 7 }).setSa { alone.sa with pend := [passing], noReading := 199 }
theorem witness_SectionFramePlaced :
    (waiting.Drained ∧ (waiting.head 1).lock = true ∧ checkSectionFrame 1 goodBytes = .ok goodFrame ∧
      (waiting.head 1).status = .active ∧ waiting.sa.pend = [pend] ∧ pend.seq = goodFrame.seq ∧ pend.contrib = none ∧
      pend.frames.get 1 = none ∧
      ∃ k : Fin 4, k ≠ 1 ∧ (waiting.head k).status = .active ∧ pend.frames.get k = none ∧ HeadSet.has pend.passed k = false) ∧
    (let s := waiting.setSa { waiting.sa with pend := [older, pend] }
     s.Drained ∧ s.sa.pend = [older, pend] ∧ older.seq ≠ goodFrame.seq ∧ older.contrib = none ∧
      older.frames.get 1 = none ∧
      ∃ k : Fin 4, k ≠ 1 ∧ (s.head k).status = .active ∧ older.frames.get k = none ∧ HeadSet.has older.passed k = false) ∧
    (alone.Drained ∧ (alone.head 1).status = .active ∧ alone.sa.pend = [pend] ∧
      ¬ ∃ k : Fin 4, k ≠ 1 ∧ (alone.head k).status = .active ∧ pend.frames.get k = none ∧ HeadSet.has pend.passed k = false) ∧
    (losing.Drained ∧ (losing.head 1).lock = true ∧ (losing.head 1).status = .active ∧ losing.sa.pend = [passing] ∧
      passing.seq = goodFrame.seq ∧ passing.contrib = none ∧ passing.frames.get 1 = none ∧
      (¬ ∃ k : Fin 4, k ≠ 1 ∧ (losing.head k).status = .active ∧ passing.frames.get k = none ∧
        HeadSet.has passing.passed k = false) ∧
      (losing.head 0).status = .active ∧ losing.hl.lostM ≤ (losing.head 0).miss + 1 ∧ goodFrame.frame.temp = none ∧
      min (losing.sa.noReading + 1) 65535 = 200) ∧ Rule.noStart [0b0011111010] := by
  refine ⟨⟨⟨rfl, fun _ => rfl, fun _ => rfl⟩, rfl, goodBytes_good, rfl, rfl, rfl, rfl, rfl, by decide +kernel⟩,
    ⟨⟨rfl, fun _ => rfl, fun _ => rfl⟩, rfl, by decide +kernel, rfl, rfl, by decide +kernel⟩,
    ⟨⟨rfl, fun _ => rfl, fun _ => rfl⟩, rfl, rfl, by decide +kernel⟩,
    ⟨⟨rfl, fun _ => rfl, fun _ => rfl⟩, rfl, rfl, rfl, rfl, rfl, rfl, by decide +kernel, rfl, by decide +kernel, rfl, rfl⟩,
    by decide⟩
/-- What the retirement of that slot leaves: head 0 LOST, HEAD_LOST and THERMAL_HOLD raised, the temperature held. -/
theorem test_retirement_loses_a_head :
    let t := after losing (.sectionFrameReceived 1 (frameSymbols .minus goodBytes))
    (t.head 0).status = .lost ∧ (t.head 1).miss = 0 ∧ FlagSet.has t.au.flags .headLost = true ∧
      FlagSet.has t.au.flags .thermalHold = true ∧ t.ge.handed.map (fun x => (x.held, x.contrib)) = [(true, 2)] := by
  decide +kernel
theorem witness_HeadLinkLockAndSymbols : waiting.Drained ∧ (waiting.head 2).lock = true ∧
    (waiting.head 2).status = .active ∧ Rule.noStart [0b0011111010] ∧ [1, (5 : Byte)].length < 7 ∧
    isSymbolError (Rule.heard (waiting.head 2).rxRd (Rule.framed (waiting.head 2).rxRd [0b0011111010] [1, 5])) 0 = true ∧
    (Rule.framed (waiting.head 2).rxRd [0b0011111010] [1, 5] ++ [0]) ++ [0b0011111010] =
      Rule.framed (waiting.head 2).rxRd [0b0011111010] [1, 5] ++ 0 :: [0b0011111010] ∧
    isSymbolError (Rule.heard (waiting.head 2).rxRd (encodeBytes (waiting.head 2).rxRd [1, 5])) 0 = true ∧
    Rule.noStart ([0b0011111010] ++ [0]) ∧ (lostHead 3).Drained ∧
    ((lostHead 3).head 1).lock = true ∧ ((lostHead 3).head 1).status = .lost ∧ (alone.head 2).lock = true ∧
    (alone.head 2).status = .hunting ∧ ((live .running).head 2).lock = false ∧
    ((after (live .running) (.setHeads 1 [7, 5, 2, 2])).head 3).status = .disabled := by
  refine ⟨⟨rfl, fun _ => rfl, fun _ => rfl⟩, rfl, rfl, by decide, by decide, by decide +kernel, rfl, by decide +kernel,
    by decide, ⟨rfl, fun _ => rfl, fun _ => rfl⟩, rfl, rfl, rfl, rfl, rfl, by decide +kernel⟩
/-- The slot behind a WAITING one; the oldest; no such slot, and one that is COMPLETE. -/
def second : PendSlot := { pend with seq := 10, coord := 136020, expiry := 400 }
theorem witness_AssemblyTimeout :
    (let s := waiting.setSa { waiting.sa with pend := [pend] ++ second :: [], seq := 11 }
     s.Drained ∧ second.contrib = none ∧ s.nextDue second.expiry = none ∧ s.sa.pend = [pend] ++ second :: [] ∧
      (∀ q ∈ [pend], q.contrib = none) ∧ ∀ q ∈ [pend] ++ ([] : List PendSlot), q.seq ≠ second.seq) ∧
    (waiting.Drained ∧ pend.contrib = none ∧ waiting.nextDue pend.expiry = none ∧ waiting.sa.pend = pend :: [] ∧
      ∀ q ∈ ([] : List PendSlot), q.seq ≠ pend.seq) ∧
    (∀ q ∈ (live .running).sa.pend, q.seq = 9 → q.contrib.isSome = true) ∧
    (∀ q ∈ [{ pend with contrib := some 3 }], q.seq = 9 → q.contrib.isSome = true) := by
  refine ⟨⟨⟨rfl, fun _ => rfl, fun _ => rfl⟩, rfl, by decide +kernel, rfl, by decide +kernel, by decide +kernel⟩,
    ⟨⟨rfl, fun _ => rfl, fun _ => rfl⟩, rfl, by decide +kernel, rfl, by decide +kernel⟩, by decide +kernel, by decide +kernel⟩
/-- In SWITCHING; with each setting out of range; with all at their bounds. -/
theorem witness_SetHeads : (live .switching).Listening ∧ (live .switching).cc.engine = .switching ∧
    (live .running).Listening ∧ (live .running).cc.engine ≠ .switching ∧
    (15 < (16 : Byte).toNat ∧ (0 : Byte).toNat = 0 ∧ ¬ (1 ≤ (65 : Byte).toNat ∧ (65 : Byte).toNat ≤ 64)) ∧
    (¬ 15 < (15 : Byte).toNat ∧ ¬ (255 : Byte).toNat = 0 ∧ (1 ≤ (64 : Byte).toNat ∧ (64 : Byte).toNat ≤ 64)) := by
  refine ⟨live_listening _, rfl, live_listening _, by decide +kernel, by decide, by decide⟩
theorem witness_SetHeadCal : (live .switching).Listening ∧ (live .switching).cc.engine = .switching ∧
    (live .running).Listening ∧ (live .running).cc.engine ≠ .switching ∧ 3 < (4 : Byte).toNat ∧
    1000000 < (1000001 : Int).natAbs ∧ ¬ 1000000 < (-1000000 : Int).natAbs ∧ ¬ 2000 < (2000 : Int).natAbs ∧
    -2147483648 ≤ (-1000000 : Int) ∧ (1000001 : Int) < 2147483648 ∧ (3 : Byte).toNat = (3 : Fin 4).val := by
  refine ⟨live_listening _, rfl, live_listening _, by decide +kernel, by decide, by decide, by decide, by decide, by decide,
    by decide, by decide⟩
/-- The bytes of one point, and a frame of head 1 with the given count and bytes after it. -/
def onePoint (u : Int) (w : Nat) : List Byte := leIntBytes 4 u ++ leBytes 4 w ++ leBytes 1 20
/-- Each check by turns: 961 points; 960 and a frame too short for them; a wrong CRC; another head ID; two points of one u; a
point out of range in u and in w; and a good frame. -/
theorem test_section_checks :
    let frame := fun (id n : Nat) (rest : List Byte) => leBytes 1 id ++ leBytes 2 9 ++ leBytes 2 0 ++ leBytes 2 n ++ rest
    checkSectionFrame 1 (frame 1 961 []) = .error .count ∧ checkSectionFrame 1 (frame 1 960 []) = .error .length ∧
    checkSectionFrame 1 (frame 1 0 [0, 0, 0, 0]) = .error .crc ∧ checkSectionFrame 1 (withCrc (frame 2 0 [])) = .error .headId ∧
    checkSectionFrame 1 (withCrc (frame 1 2 (onePoint 5 0 ++ onePoint 5 0))) = .error .order ∧
    checkSectionFrame 1 (withCrc (frame 1 1 (onePoint 200001 0))) = .error .range ∧
    checkSectionFrame 1 (withCrc (frame 1 1 (onePoint 0 500001))) = .error .range ∧
    (checkSectionFrame 1 (withCrc (frame 1 1 (onePoint (-200000) 500000)))).toOption.isSome = true := by decide +kernel
/-- The lengths and the CRC at their limits, and points in range. -/
theorem witness_SectionFrameReadBack :
    let pts : List Point := [{ u := -200000, w := 0, quality := 255 }, { u := 200000, w := 500000, quality := 0 }]
    let head : List Byte := [1] ++ leBytes 2 9 ++ leBytes 2 0 ++ leBytes 2 0
    (head.take 6).length < 7 ∧ (960 < 961 ∧ 961 < 65536) ∧ (960 ≤ 960 ∧ ¬ 9 * 960 + 4 ≤ (List.replicate 8643 (0 : Byte)).length) ∧
    (9 * 0 + 4 ≤ [0, 0, 0, (0 : Byte)].length ∧ ¬ crcMatches (head ++ [0, 0, 0, 0]) (7 + 9 * 0) = true) ∧
    crcMatches (head ++ crcBytes head) (7 + 9 * 0) = true ∧
    (65535 < 65536 ∧ pts.length ≤ 960 ∧ pts.Pairwise (fun a b => a.u < b.u) ∧
      ∀ p ∈ pts, -200000 ≤ p.u ∧ p.u ≤ 200000 ∧ p.w ≤ 500000 ∧ p.quality ≤ 255) := by decide +kernel

theorem witness_SectionEvaluated : handed.Drained ∧ handed.ge.handed = section49 :: [] ∧
    handed.ge.compiled = some compiled ∧ (live .running).Drained ∧ (live .running).ge.handed = [] :=
  ⟨⟨rfl, fun _ => rfl, fun _ => rfl⟩, rfl, rfl, live_drained _, rfl⟩
/-- A gauged POS and SPAN, and gauges whose probe a or probe b is invalid. -/
theorem witness_GaugeEntryFormed : compiled.expansion ≤ 5000 ∧ compiled.tRef ≤ 400 ∧ -99999 ≤ gauge.tolLo ∧
    gauge.tolLo ≤ 0 ∧ 0 ≤ gauge.tolHi ∧ gauge.tolHi ≤ 99999 ∧ coordOfProbe compiled section49 gauge.a = some 39966 ∧
    ¬ (gauge.kind = .spanX ∨ gauge.kind = .spanY) ∧ (39966 : Int) = 39966 - gauge.datum ∧
    coordOfProbe compiled section49 1 = none := by
  refine ⟨?_, ?_, ?_, ?_, ?_, ?_, ?_, ?_, ?_, ?_⟩ <;> decide +kernel
theorem witness_GaugeEntryFormed_span :
    let g : GaugeRec := { gauge with kind := .spanY, b := some 0 }
    (g.kind = .spanX ∨ g.kind = .spanY) ∧ coordOfProbe compiled section49 g.a = some 39966 ∧
      ∃ y : Int, g.b.bind (coordOfProbe compiled section49) = some y ∧ (0 : Int) = if (39966 : Int) < y then y - 39966 else 39966 - y := by
  refine ⟨by decide, by decide +kernel, 39966, by decide +kernel, by decide⟩
/-- A head that does not contribute; too few and enough points; no edge pair; and the edge pair of P1 of 4.9. -/
def edge : CompiledProbe :=
  { probe := { probe with
      kind := .edge, uLo := -60000, uHi := -20000, wLo := 100000, wHi := 200000, step := 8000, minPts := 0, axis := .x }
    quad := 0 }
def edgePoints : HeadData :=
  { points := [{ u := -40212, w := 131420, quality := 20 }, { u := -40188, w := 188960, quality := 20 }], ox := 0, oy := 0,
    scale := 150 }
theorem witness_ProbeCoordinateFormed :
    (section49.heads.get 0).isSome = true ∧ HeadSet.has 14 0 = false ∧ HeadSet.has section49.contrib 0 = true ∧
    probe.kind = .surface ∧ 1 ≤ probe.minPts ∧ edge.probe.kind = .edge ∧
    (∃ m n, edgePoints.points[0]? = some m ∧ edgePoints.points[0 + 1]? = some n ∧
      (m.w + edge.probe.step ≤ n.w ∨ n.w + edge.probe.step ≤ m.w)) ∧
    probeCoord compiled { section49 with heads := ⟨some edgePoints, none, none, none⟩ } edge = some (-40206) := by
  refine ⟨rfl, by decide, by decide, rfl, by decide, rfl, ⟨_, _, rfl, rfl, by decide⟩, by decide +kernel⟩
/-- A result to advance to; and one at the settled coordinate with nothing to advance over. -/
def evaluated : State := after handed .sectionEvaluation
theorem witness_SectionApplied : evaluated.Drained ∧ evaluated.pt.results = [evaluate compiled section49] ∧
    evaluated.pt.piece = some piece ∧ (evaluate compiled section49).coord ≤ evaluated.pt.settled ∧
    evaluated.pt.presented ≤ evaluated.pt.settled ∧ (live .running).pt.results = [] := by
  refine ⟨⟨rfl, fun _ => by decide +kernel, fun _ => by decide +kernel⟩, by decide +kernel, by decide +kernel, by decide +kernel, by decide +kernel, rfl⟩
/-- The items of an advance from 136,000: to 140,009 none, to 140,010 the end of the current bin; a match at 140,010 is
reached by the second and not by the first. -/
theorem witness_SectionApplied_advance :
    let s := live .running
    let item := fun y : Nat => s.pk.stopZone = some y ∨ s.pk.weldZone = some y ∨ s.pt.frontCrop = some y ∨
      (∃ m ∈ s.pk.queue, m.start = y) ∨ (piece.bounded = true ∧ piece.cur.stop = y)
    s.pt.piece = some piece ∧ s.pt.settled < 140009 ∧ s.au.matchAt = none ∧
    (∀ y, item y → y ≤ s.pt.settled ∨ 140009 < y) ∧
    (item 140010 ∧ s.pt.settled < 140010 ∧ ∀ z, item z → z ≤ s.pt.settled ∨ 140010 ≤ z) ∧
    (∃ k, (some 140010 : Option Nat) = some k ∧ s.pt.settled < k ∧ k ≤ 140010) ∧
    ¬ ∃ k, (some 140010 : Option Nat) = some k ∧ s.pt.settled < k ∧ k ≤ 140009 := by
  have h : (live .running).pt.settled = 136000 := rfl
  simp only [h]
  refine ⟨rfl, by decide, rfl, ?_, ⟨.inr (.inr (.inr (.inr ⟨rfl, rfl⟩))), by decide, ?_⟩, by simp, by simp⟩
  all_goals
    rintro y (h | h | h | ⟨m, h, -⟩ | ⟨-, rfl⟩)
    · cases h
    · cases h
    · cases h
    · cases h
    · decide
/-- R105, R153: an advance to the end of the current bin applies the boundary and fires the match there. -/
theorem test_match_fires_at_its_coordinate :
    let s := (live .running).setAu { (live .running).au with matchAt := some 140010 }
    (s.advanceTo 140009).au.matchAt = some 140010 ∧ (s.advanceTo 140010).au.matchAt = none ∧
      ((s.advanceTo 140010).pt.piece.map fun p => p.closed.length) = some 1 := by decide +kernel
theorem witness_WorstOfAGauge :
    let e : GaugeEntry := { idx := 0, cold := some 39498, dev := some (-502), cls := .outLo, saturated := false }
    let g : BinGauge := { idx := 0, worst := .ungraded, dev := none }
    let n : GaugeEntry := { idx := 0, cold := none, dev := none, cls := .notGauged, saturated := false }
    ([e].find? (fun x => x.idx == g.idx) = some e ∧ e.dev = some (-502) ∧ e.cls ≠ .notGauged) ∧
    [n].find? (fun x => x.idx == g.idx) = some n ∧ n.dev = none ∧ n.cls = .notGauged := by decide
/-- A free record; an empty pool; a piece of 256 bins; and the items at one coordinate, a mark at it and a later one. -/
def dry : State := { live .running with pt := { (live .running).pt with free := 0 } }
def long : Piece := { piece with closed := List.replicate 255 piece.cur }
theorem witness_BoundaryApplied : ((live .halting).pt.piece = some piece ∧ piece.closed.length < 255 ∧
    (live .halting).pt.free ≠ 0) ∧ (dry.pt.piece = some piece ∧ dry.pt.free = 0) ∧
    (let s := (live .running).setPt { (live .running).pt with piece := some long }
     s.pt.piece = some long ∧ 255 ≤ long.closed.length ∧ long.cur.start < 140010) ∧
    (let s := (live .running).setPk { (live .running).pk with queue := [cutMark 137000 true] ++ [cutMark 137001 false] }
     s.pk.queue = [cutMark 137000 true] ++ [cutMark 137001 false] ∧ (∀ m ∈ [cutMark 137000 true], m.start ≤ 137000) ∧
      ∀ m ∈ [cutMark 137001 false], 137000 < m.start) := by decide +kernel
/-- R120: the 257th bin belongs to a CONTINUED piece. -/
theorem test_split :
    let t := State.applyBoundary ((live .running).setPt { (live .running).pt with piece := some long }) 140010
    (t.pt.piece.map fun p => (p.number, p.flags, p.start)) = some (28, 1, 140010) ∧
      t.rq.reports.map (fun r => (r.reason, r.bins.length)) = [(.split, 256)] := by decide +kernel
theorem witness_PieceOpened : dry.pt.free = 0 ∧ (live .running).pt.free ≠ 0 ∧ (live .halting).pt.piece = some piece :=
  ⟨rfl, by decide, rfl⟩
theorem witness_CompilationCompleted : switching.Drained ∧ switching.cc.engine = .switching ∧
    switching.cc.active = some 0 ∧ (switching.dieSlot 0).params = some par ∧ 0 < par.pitch ∧
    switching.lt.live + par.pitch ≤ 4294967295 ∧ (live .ready).cc.engine ≠ .switching := by
  refine ⟨⟨rfl, fun _ => rfl, fun _ => rfl⟩, rfl, rfl, by decide +kernel, by decide, by decide +kernel, by decide +kernel⟩

/-! ### Witnesses of the commands -/

theorem witness_StartAndHalt : ∀ e, (live e).Listening ∧ (live e).cc.engine = e ∧ (live e).pt.piece = some piece :=
  fun e => ⟨live_listening e, rfl, rfl⟩
theorem witness_SlotNumberRefused : (live .running).Listening ∧ 7 < (8 : Byte).toNat ∧ lengthOk .openSlot [8] = true ∧
    lengthOk .writeParams (8 :: List.replicate 32 0) = true := by
  refine ⟨live_listening _, by decide, by decide +kernel, by decide +kernel⟩
/-- Slots of each state, busy and not. -/
theorem witness_SlotOpenedErasedQueried : (live .running).Listening ∧ ((live .running).dieSlot 0).busy = true ∧
    ((live .running).dieSlot 7).state = .empty ∧ (State.reset.putSlot 3 loading).Listening ∧
    ((State.reset.putSlot 3 loading).dieSlot 3).state = .loading ∧
    ((State.reset.putSlot 3 closed).dieSlot 3).state = .sealed := by
  refine ⟨live_listening _, by decide +kernel, by decide +kernel, ⟨rfl, rfl, rfl⟩, by decide +kernel, by decide +kernel⟩
/-- Fields at their bounds, and one out of range. -/
theorem witness_ParamsWritten : (State.reset.putSlot 3 loading).Listening ∧
    ((State.reset.putSlot 3 loading).dieSlot 3).busy = false ∧
    (par.echo < 65536 ∧ par.pitch < 65536 ∧ par.spacing < 65536 ∧ par.binLen < 65536 ∧ par.frontCrop < 65536 ∧
      par.backCrop < 65536 ∧ par.stopHalf < 65536 ∧ par.weldLead < 4294967296 ∧ par.weldLen < 4294967296 ∧
      par.expansion < 65536 ∧ par.tRef < 65536 ∧ par.tDef < 65536 ∧ par.minQuality < 256 ∧ par.ungaugedLimit < 256 ∧
      par.burstLimit < 256) ∧ (10 ≤ 1000 ∧ 1000 ≤ 1000) ∧ ¬ (10 ≤ 9 ∧ 9 ≤ 1000) ∧ 15 < (16 : Byte).toNat ∧
    ¬ 15 < (15 : Byte).toNat := by
  refine ⟨⟨rfl, rfl, rfl⟩, by decide +kernel, by decide, by decide, by decide, by decide, by decide⟩
/-- R4 field 14: a policy byte of 16 is refused. -/
theorem test_write_params_policy : sent (after (State.reset.putSlot 3 loading)
    (.writeParams 1 (3 :: par.bytes.set 29 16))) = some (.badValue, .summaryOnly) := by decide +kernel
/-- One record and sixteen. -/
theorem witness_ProbesWritten : (State.reset.putSlot 3 loading).Listening ∧ (1 ≤ [probe].length ∧ [probe].length ≤ 16) ∧
    (1 ≤ (List.replicate 16 probe).length ∧ (List.replicate 16 probe).length ≤ 16) ∧
    ∀ r ∈ List.replicate 16 probe, -2147483648 ≤ r.uLo ∧ r.uLo < 2147483648 ∧ -2147483648 ≤ r.uHi ∧ r.uHi < 2147483648 ∧
      r.wLo < 4294967296 ∧ r.wHi < 4294967296 ∧ r.step < 4294967296 ∧ r.minPts < 256 := by
  refine ⟨⟨rfl, rfl, rfl⟩, by decide, by decide, by decide +kernel⟩
/-- A record of which each of the three codes in turn names nothing, behind a valid one. -/
theorem witness_ProbesWritten_codes :
    ((State.reset.putSlot 3 loading).dieSlot 3).busy = false ∧
    ((State.reset.putSlot 3 loading).dieSlot 3).state = .loading ∧
    ((State.reset.putSlot 3 loading).dieSlot 3).probePtr + 1 + 1 ≤ 64 ∧ 1 ≤ [probe].length ∧
    (probe.bytes.set 0 2).length = 25 ∧ 1 < ((probe.bytes.set 0 2).getD 0 0).toNat ∧
    3 < ((probe.bytes.set 1 4).getD 1 0).toNat ∧ 1 < ((probe.bytes.set 24 2).getD 24 0).toNat ∧
    -200000 ≤ probe.uLo ∧ probe.uLo < probe.uHi ∧ probe.uHi ≤ 200000 ∧ probe.wLo < probe.wHi ∧ probe.wHi ≤ 500000 ∧
    probe.kind = .surface ∧ 1 ≤ probe.minPts ∧ probe.minPts ≤ 64 := by decide +kernel
/-- A record whose kind code is 4, behind a valid one. -/
theorem witness_GaugesWritten_codes :
    ((State.reset.putSlot 3 loading).dieSlot 3).gaugePtr + 1 + 1 ≤ 32 ∧ 1 ≤ [gauge].length ∧
    (gauge.bytes.set 1 4).length = 21 ∧ 3 < ((gauge.bytes.set 1 4).getD 1 0).toNat ∧ gauge.a ≤ 63 ∧
    (gauge.b.all fun b => decide (b ≤ 63)) = true ∧ gauge.kind = .posY ∧ gauge.datum.natAbs ≤ 999999 ∧
    -999999 ≤ gauge.nominal ∧ gauge.nominal ≤ 999999 ∧ -99999 ≤ gauge.tolLo ∧ gauge.tolLo ≤ 0 ∧ 0 ≤ gauge.tolHi ∧
    gauge.tolHi ≤ 99999 ∧ 50 ≤ gauge.warn ∧ gauge.warn ≤ 100 := by decide +kernel
theorem witness_GaugesWritten : (State.reset.putSlot 3 loading).Listening ∧
    (1 ≤ (List.replicate 16 gauge).length ∧ (List.replicate 16 gauge).length ≤ 16) ∧
    ∀ r ∈ List.replicate 16 gauge, r.a < 256 ∧ (∀ b ∈ r.b, b < 255) ∧ -2147483648 ≤ r.datum ∧ r.datum < 2147483648 ∧
      -2147483648 ≤ r.nominal ∧ r.nominal < 2147483648 ∧ -2147483648 ≤ r.tolLo ∧ r.tolLo < 2147483648 ∧
      -2147483648 ≤ r.tolHi ∧ r.tolHi < 2147483648 ∧ r.warn < 256 := by
  refine ⟨⟨rfl, rfl, rfl⟩, by decide, ?_⟩
  intro r hr
  obtain rfl := List.eq_of_mem_replicate hr
  refine ⟨by decide, by simp [gauge], ?_⟩
  decide
/-- EMPTY, SEALED, LOADING with a failed check and LOADING with all passed (see the tests of SEAL_SLOT). -/
theorem witness_SlotSealed : State.reset.Listening ∧ (State.reset.dieSlot 3).state = .empty ∧
    ((State.reset.putSlot 3 closed).dieSlot 3).state = .sealed ∧
    sealFault State.reset.lt.geom.quad { loading with params := none } = some (1, 0) ∧
    sealFault State.reset.lt.geom.quad loading = none ∧ loading.params = some par := by
  refine ⟨⟨rfl, rfl, rfl⟩, by decide +kernel, by decide +kernel, by decide +kernel, by decide +kernel, rfl⟩
theorem witness_DieMappedUnmapped : (live .running).Listening ∧ 0 < 65536 ∧ 65535 < 65536 ∧
    (∃ e ∈ (live .running).cc.dir, e.die = 2217) ∧ ¬ ∃ e ∈ (live .running).cc.dir, e.die = 65535 := by
  refine ⟨live_listening _, by decide, by decide, by decide +kernel, by decide +kernel⟩

/-- Each check's failure and the passing of all, on the machine of 7.7 and changes of it. -/
theorem witness_DieChanged : changing.Listening ∧ 2240 < 65536 ∧ (live .switching).cc.engine = .switching ∧
    ((live .ready).cc.engine ≠ .switching ∧ (live .ready).pk.state = .pushing) ∧
    (changing.cc.engine ≠ .switching ∧ changing.pk.state ≠ .pushing ∧
      (∀ e ∈ changing.cc.dir, e.die = 9 → e.enabled = false)) ∧
    changing.cc.dir.find? (fun x => x.die == 2240 && x.enabled) = some { die := 2240, slot := 5, enabled := true } ∧
    (changing.dieSlot 5).state = .sealed ∧ (changing.dieSlot 5).busy = false ∧
    ((changing.putSlot 5 loading).dieSlot 5).state ≠ .sealed ∧ (changing.dieSlot 0).busy = true ∧
    (changing.head 0).status ≠ .disabled ∧ (changing.lt.geom.quad.get probe.head = 0) ∧ probe.axis = .y ∧
    ((after changing (.setHeads 1 [14, 5, 2, 2])).head 0).status = .disabled ∧ changing.pt.piece = some piece ∧
    changing.cc.active = some 0 := by
  refine ⟨⟨rfl, rfl, rfl⟩, by decide, rfl, ⟨by decide +kernel, rfl⟩, ⟨by decide +kernel, by decide +kernel, by decide +kernel⟩,
    by decide +kernel, by decide +kernel, by decide +kernel, by decide +kernel, by decide +kernel, by decide +kernel,
    by decide +kernel, rfl, by decide +kernel, rfl, rfl⟩
theorem witness_SwitchReverted : linked.Listening ∧ linked.cc.engine.tracks = true ∧ linked.cc.active = some 5 ∧
    (linked.dieSlot 5).link = some { slot := 0, gen := 5 } ∧ linked.pk.state ≠ .pushing ∧
    (linked.dieSlot 0).state = .sealed ∧ (linked.dieSlot 0).gen = 5 ∧ (linked.head 0).status ≠ .disabled ∧
    ((linked.putSlot 0 { closed with gen := 6 }).dieSlot 0).gen ≠ 5 ∧
    ((after linked (.setHeads 1 [14, 5, 2, 2])).head 0).status = .disabled ∧
    (changing.dieSlot 0).link = none ∧ (live .switching).cc.engine = .switching ∧ State.reset.cc.engine = .idle ∧
    (linked.setPk { linked.pk with state := .pushing }).pk.state = .pushing ∧ linked.pt.piece = some piece := by
  refine ⟨⟨rfl, rfl, rfl⟩, rfl, rfl, ?_, ?_, ?_, ?_, ?_, ?_, ?_, ?_, rfl, rfl, rfl, rfl⟩ <;> decide +kernel

/-- A STOP mark above the settled coordinate with room in the queue, with none, and one at or below it. -/
def full : State :=
  let s := at40000 .running
  s.setPk { s.pk with queue := List.replicate 16 (cutMark 137000 false) }
def behind : State :=
  { live .running with lt := { (live .running).lt with history := List.replicate 64 38000 } }
theorem witness_RamStopNoted : (at40000 .running).Listening ∧ (at40000 .running).cc.engine.tracks = true ∧
    (at40000 .running).pk.state ≠ .stopped ∧
    min (((at40000 .running).lt.lookup 0 0).1 + (at40000 .running).lt.geom.dDie) 4294967295 - par.stopHalf = 138000 ∧
    (at40000 .running).pt.settled < 138000 ∧ (at40000 .running).pk.queue.length < 16 ∧ 16 ≤ full.pk.queue.length ∧
    min ((behind.lt.lookup 0 0).1 + behind.lt.geom.dDie) 4294967295 - par.stopHalf ≤ behind.pt.settled ∧
    behind.pt.piece = some piece ∧ stopped.pk.state = .stopped ∧ State.reset.pk.state ≠ .stopped := by
  refine ⟨⟨rfl, rfl, rfl⟩, rfl, ?_, ?_, ?_, ?_, ?_, ?_, ?_, rfl, ?_⟩ <;> decide +kernel
theorem witness_RamStartNoted : stopped.Listening ∧ stopped.cc.engine.tracks = true ∧ stopped.pk.state = .stopped ∧
    stopped.pk.stopRec = some { coord := 140000, est := false } ∧ 418 ≠ stopped.pk.billet ∧ 417 = stopped.pk.billet ∧
    min (140000 + par.weldLead) 4294967295 = 143000 ∧ stopped.pt.settled < 143000 ∧ stopped.pk.queue.length < 16 ∧
    (live .running).pk.state = .pushing ∧
    (let s := stopped.setPk { stopped.pk with stopRec := none }
     s.pk.state ≠ .pushing ∧ s.pk.stopRec = none) ∧
    (let s := stopped.setPk { stopped.pk with stopRec := some { coord := 133000, est := true } }
     min (133000 + par.weldLead) 4294967295 ≤ s.pt.settled ∧ s.pt.piece = some piece) ∧
    16 ≤ (stopped.setPk { stopped.pk with queue := full.pk.queue }).pk.queue.length := by
  refine ⟨⟨rfl, rfl, rfl⟩, rfl, rfl, rfl, ?_, ?_, ?_, ?_, ?_, rfl, ?_, ?_, ?_⟩ <;> decide +kernel
/-- The saw coordinate 137,000: new, a duplicate, and with a full queue; 135,000: late; 130,010: the piece's start. -/
def saw (c : Nat) : State := { live .running with lt := { (live .running).lt with history := List.replicate 64 c } }
theorem witness_CutNoted : (saw 87000).Listening ∧ (saw 87000).cc.engine.tracks = true ∧
    min (((saw 87000).lt.lookup 0 0).1 + (saw 87000).lt.geom.dSaw) 4294967295 = 137000 ∧
    (saw 87000).pt.settled < 137000 ∧ (¬ ∃ q ∈ (saw 87000).pk.queue, q.kind = .cut ∧ q.start = 137000) ∧
    (saw 87000).pk.queue.length < 16 ∧ (∃ q ∈ full.pk.queue, q.kind = .cut ∧ q.start = 137000) ∧
    (¬ ∃ q ∈ full.pk.queue, q.kind = .cut ∧ q.start = 137001) ∧ 16 ≤ full.pk.queue.length ∧
    (135000 ≤ (saw 85000).pt.settled ∧ (saw 85000).pt.piece = some piece ∧ piece.start < 135000) ∧
    (130010 ≤ (saw 80010).pt.settled ∧ 130010 ≤ piece.start) := by
  refine ⟨⟨rfl, rfl, rfl⟩, rfl, ?_, ?_, ?_, ?_, ?_, ?_, ?_, ?_, ?_⟩ <;> decide +kernel
/-- A late cut at 131,000 where two bins lie above it: they are folded into the bin that runs from 130,010. -/
def shortBin (k start : Nat) : Bin := { piece.cur with index := k, start := start, stop := start + 2500, sections := 3 }
def threeBins : Piece :=
  { piece with closed := [shortBin 0 130010, shortBin 1 132510], cur := shortBin 2 135010 }
def folding : State :=
  (saw 81000).setPt { (saw 81000).pt with piece := some threeBins, free := 1021 }
theorem witness_CutNoted_fold : folding.Listening ∧ folding.cc.engine.tracks = true ∧
    min ((folding.lt.lookup 0 0).1 + folding.lt.geom.dSaw) 4294967295 = 131000 ∧ 131000 ≤ folding.pt.settled ∧
    folding.pt.piece = some threeBins ∧ threeBins.start < 131000 ∧ folding.MarksSound ∧
    threeBins.closed ++ [threeBins.cur] = [] ++ shortBin 0 130010 :: [shortBin 1 132510, shortBin 2 135010] ∧
    (shortBin 0 130010).start < 131000 ∧ (∀ b ∈ [shortBin 1 132510, shortBin 2 135010], 131000 ≤ b.start) ∧
    folding.pt.free ≠ 0 ∧ folding.pt.settled < 131000 + folding.params.binLen := by
  refine ⟨⟨rfl, rfl, rfl⟩, rfl, ?_, ?_, rfl, ?_, ⟨?_, ?_, ?_⟩, rfl, ?_, ?_, ?_, ?_⟩ <;> decide +kernel
/-- R119: the fold adds the sections, and the two records return to the pool. -/
theorem test_cut_folds :
    let t := after folding (.noteCut 1 [0, 0])
    t.rq.reports.map (fun r => r.bins.map fun b => (b.start, b.stop, b.sections)) = [[(130010, 131000, 9)]] ∧
      t.pt.free = 1022 := by decide +kernel
theorem witness_ReportsFetched : (live .running).Listening ∧ (live .running).rq.reports = [] ∧ reported.Listening ∧
    reported.rq.reports = report :: [] ∧ (∃ b more, report.bins = b :: more) ∧ reported.rq.fetchPtr ≠ report.bins.length ∧
    (reported.setRq { reported.rq with fetchPtr := 1 }).rq.fetchPtr = report.bins.length ∧ 1 ≤ report.bins.length ∧
    report.bins.length < 2 ∧ 65535 < 65536 := by
  refine ⟨live_listening _, rfl, ⟨rfl, rfl, rfl⟩, rfl, ⟨_, _, rfl⟩, ?_, rfl, ?_, ?_, ?_⟩ <;> decide +kernel
theorem witness_ReleasedAndTraced : reported.Listening ∧ reported.rq.reports = report :: [] ∧ report.number = 401 ∧
    (402 ≠ 0 ∧ 402 ≠ report.number) ∧ (live .running).rq.reports = [] ∧ 65535 < 65536 :=
  ⟨⟨rfl, rfl, rfl⟩, rfl, rfl, by decide, rfl, by decide⟩
theorem witness_AlertsCommanded : (live .running).Listening ∧ 4294967295 < 4294967296 := ⟨live_listening _, by decide⟩
theorem witness_PartRead : (live .switching).Listening := live_listening _
theorem witness_EngineReset : (live .switching).Listening ∧ (live .halting).Listening :=
  ⟨live_listening _, live_listening _⟩

end Sys2Proof.Tests
end

section
/-! The law of the die slots and the directory (R1, R10, R19, R23): what leaves them as they stand, what each slot and
directory command does to them, and that every step keeps them in bounds. -/

namespace Sys2Proof.Machine

/-! ### What leaves the slots and the directory as they stand -/

/-- The die slots and the directory of `t` are those of `s`. -/
structure SlotFrame (s t : State) : Prop where
  slots : t.cc.slots = s.cc.slots
  dir : t.cc.dir = s.cc.dir

theorem SlotFrame.of_cc {s t : State} (h : t.cc = s.cc) : SlotFrame s t := ⟨by rw [h], by rw [h]⟩

theorem SlotFrame.refl (s : State) : SlotFrame s s := .of_cc rfl

theorem SlotFrame.trans {s t u : State} (h : SlotFrame s t) (k : SlotFrame t u) : SlotFrame s u :=
  ⟨k.slots.trans h.slots, k.dir.trans h.dir⟩

/-- What comes behind a change of other blocks. -/
theorem SlotFrame.after {s u t : State} (k : SlotFrame u t) (h : u.cc = s.cc) : SlotFrame s t :=
  (SlotFrame.of_cc h).trans k

theorem PieceFrame.slotFrame {s t : State} (h : PieceFrame s t) : SlotFrame s t := ⟨h.slots, h.dir⟩

theorem SectionFrame.slotFrame {s t : State} (h : SectionFrame s t) : SlotFrame s t := ⟨h.slots, h.dir⟩

/-- A fold of operations that each leave the slots and the directory leaves them. -/
theorem SlotFrame.foldl {α : Type} (f : State → α → State) (hf : ∀ s a, SlotFrame s (f s a)) (l : List α)
    (s : State) : SlotFrame s (l.foldl f s) :=
  List.foldlRecOn l f (.refl s) fun t ht a _ => ht.trans (hf t a)

theorem SlotFrame.sound {s t : State} (h : SlotFrame s t) (hs : s.SlotsSound) : t.SlotsSound := by
  simpa only [State.SlotsSound, State.dieSlot, h.slots, h.dir] using hs

/-! ### The events -/

theorem State.raise_cc (s : State) (f : AlertFlag) : (s.raise f).cc = s.cc := rfl

theorem State.gridDecide_cc (s : State) (c : Nat) : (s.gridDecide c).cc = s.cc := by
  unfold State.gridDecide
  split
  · split
    · rfl
    · dsimp only
      split <;> rfl
  · rfl

theorem State.present_slotFrame (s : State) (c : Nat) : SlotFrame s (s.present c) :=
  (State.advance_frame _).slotFrame.after rfl

theorem State.liveChanged_slotFrame (s : State) : SlotFrame s s.liveChanged := by
  unfold State.liveChanged
  refine SlotFrame.trans ?_ (State.cascade_frame _).slotFrame
  refine SlotFrame.trans ?_ (State.present_slotFrame _ _)
  refine SlotFrame.trans ?_ (.of_cc (State.gridDecide_cc _ _))
  split
  · exact .of_cc rfl
  · exact .refl s

theorem State.forwardCount_slotFrame (s : State) : SlotFrame s s.forwardCount := by
  unfold State.forwardCount
  split
  · exact .of_cc rfl
  · split
    · exact .refl s
    · dsimp only
      split
      · exact .of_cc rfl
      · exact (State.liveChanged_slotFrame _).after rfl

theorem State.wheel_slotFrame (s : State) (a b : Bool) : SlotFrame s (s.wheel a b) := by
  unfold State.wheel
  dsimp only
  split
  · exact .of_cc rfl
  · exact (State.forwardCount_slotFrame _).after rfl
  · exact .of_cc rfl

theorem State.evaluateNext_cc (s : State) : s.evaluateNext.cc = s.cc := by
  unfold State.evaluateNext
  split <;> rfl

theorem State.offerTrace_cc (s : State) (r : SecResult) : (s.offerTrace r).cc = s.cc := by
  unfold State.offerTrace
  split
  · rfl
  · split <;> rfl

theorem State.applyResult_slotFrame (s : State) (r : SecResult) : SlotFrame s (s.applyResult r) := by
  unfold State.applyResult
  refine SlotFrame.trans ?_ (State.advance_frame _).slotFrame
  refine SlotFrame.trans ?_ (.of_cc (State.setPt_cc _ _))
  refine SlotFrame.trans ?_ (.of_cc (State.offerTrace_cc _ _))
  refine SlotFrame.trans ?_ (State.countBurst_frame _ _).slotFrame
  refine SlotFrame.trans (s.advanceTo_frame r.coord).slotFrame ?_
  refine SlotFrame.trans (State.mapPiece_frame _ fun p => { p with cur := countSection r p.cur }).slotFrame ?_
  split
  · exact (State.mapPiece_frame _ _).slotFrame
  · exact .refl _

theorem State.applySection_slotFrame (s : State) : SlotFrame s s.applySection := by
  unfold State.applySection
  split
  · exact .refl s
  · exact (State.applyResult_slotFrame _ _).after rfl

theorem State.compilationDone_slotFrame (s : State) : SlotFrame s s.compilationDone := by
  unfold State.compilationDone
  split
  · refine SlotFrame.trans ?_ (.of_cc (State.raise_cc _ _))
    refine SlotFrame.trans ?_ (State.advance_frame _).slotFrame
    refine SlotFrame.trans ?_ (State.openPiece_frame _ _ _).slotFrame
    exact ⟨rfl, rfl⟩
  · exact .refl s

/-! Head links. -/

theorem State.goodFrame_slotFrame (s : State) (h : Fin 4) (g : GoodFrame) : SlotFrame s (s.goodFrame h g) :=
  (State.settleSections_frame _).slotFrame.after rfl

theorem State.sectionFrame_slotFrame (s : State) (h : Fin 4) (bs : List Byte) : SlotFrame s (s.sectionFrame h bs) := by
  unfold State.sectionFrame
  split
  · exact .of_cc rfl
  · exact s.goodFrame_slotFrame h _

theorem State.headDown_slotFrame (s : State) (h : Fin 4) (f : HeadFault) (lock : Bool) :
    SlotFrame s (s.headDown h f lock) := by
  unfold State.headDown
  dsimp only
  split
  · exact (State.settleSections_frame _).slotFrame.after rfl
  · exact .of_cc rfl

theorem State.headFinds_slotFrame (h : Fin 4) (s : State) (e : LinkEvent) : SlotFrame s (State.headFinds h s e) := by
  cases e with
  | symbolError => exact s.headDown_slotFrame h _ _
  | frame bs => exact s.sectionFrame_slotFrame h bs

theorem State.headHears_slotFrame (s : State) (h : Fin 4) (inFrame ended : Bool) (run : List Symbol) :
    SlotFrame s (s.headHears h inFrame ended run) := by
  unfold State.headHears
  dsimp only
  split
  · exact (SlotFrame.foldl _ (State.headFinds_slotFrame h) _ _).after rfl
  · exact .refl s

theorem State.headLockLoss_slotFrame (s : State) (h : Fin 4) : SlotFrame s (s.headLockLoss h) := by
  unfold State.headLockLoss
  split
  · exact s.headDown_slotFrame h _ _
  · exact .refl s

theorem State.headLockGain_cc (s : State) (h : Fin 4) : (s.headLockGain h).cc = s.cc := by
  unfold State.headLockGain
  split <;> rfl

/-! The line link. -/

theorem State.goodCommand_cc (s : State) (code tag : Byte) (p : List Byte) : (s.goodCommand code tag p).cc = s.cc := by
  unfold State.goodCommand
  split <;> rfl

theorem State.lineFinds_slotFrame (s : State) (e : LinkEvent) : SlotFrame s (s.lineFinds e) := by
  cases e with
  | symbolError => exact .of_cc rfl
  | frame bs =>
    simp only [State.lineFinds, State.lineFrame]
    split
    · exact .of_cc rfl
    · exact .of_cc (s.goodCommand_cc _ _ _)

theorem State.lineHears_slotFrame (s : State) (inFrame ended : Bool) (run : List Symbol) :
    SlotFrame s (s.lineHears inFrame ended run) := by
  unfold State.lineHears
  dsimp only
  split
  · exact (SlotFrame.foldl _ State.lineFinds_slotFrame _ _).after rfl
  · exact .refl s

theorem State.lineLockLoss_cc (s : State) (inFrame : Bool) : (s.lineLockLoss inFrame).cc = s.cc := by
  unfold State.lineLockLoss
  split
  · dsimp only
    split <;> rfl
  · rfl

/-! ### Updates of one slot and of the directory -/

theorem State.putSlot_slotsSound {s : State} {d : DieSlot} (i : Fin 8) (hs : s.SlotsSound) (hd : d.Sound) :
    (s.putSlot i d).SlotsSound := by
  obtain ⟨hslots, hdir⟩ := hs
  refine ⟨fun j => ?_, hdir⟩
  by_cases h : j = i
  · rwa [h, s.putSlot_dieSlot_self]
  · rw [s.putSlot_dieSlot_other d h]
    exact hslots j

theorem State.setDir_slotsSound {s : State} {dir : List DirEntry} (hs : s.SlotsSound) (hlen : dir.length ≤ 32)
    (hnodup : (dir.map DirEntry.die).Nodup) : (s.setCc { s.cc with dir := dir }).SlotsSound :=
  ⟨hs.1, hlen, hnodup⟩

/-- A change of the busy flag keeps a slot sound. -/
theorem DieSlot.Sound.setBusy {d : DieSlot} (h : d.Sound) (b : Bool) : DieSlot.Sound { d with busy := b } := h

/-- A link may be cleared in any slot. -/
theorem DieSlot.Sound.clearLink {d : DieSlot} (h : d.Sound) : DieSlot.Sound { d with link := none } := by
  obtain ⟨hp, hpp, hg, hgp, hsealed, hdigest, hempty⟩ := h
  refine ⟨hp, hpp, hg, hgp, hsealed, hdigest, fun he => ?_⟩
  obtain ⟨h1, h2, h3, -⟩ := hempty he
  exact ⟨h1, h2, h3, rfl⟩

/-- A SEALED slot may take any link. -/
theorem DieSlot.Sound.setLink {d : DieSlot} (h : d.Sound) (hs : d.state = .sealed) (l : Option SlotLink) :
    DieSlot.Sound { d with link := l } := by
  obtain ⟨hp, hpp, hg, hgp, hsealed, hdigest, -⟩ := h
  exact ⟨hp, hpp, hg, hgp, hsealed, hdigest, fun he => SlotState.noConfusion (hs.symm.trans he)⟩

/-- An erased slot has nothing (R20). -/
theorem DieSlot.Sound.erased (d : DieSlot) : d.erased.Sound := by
  simp [DieSlot.erased, DieSlot.fresh, DieSlot.Sound]

theorem overwrite_length {α : Type} (table new : List α) (start : Nat) (h : start ≤ table.length) :
    (overwrite table start new).length = max table.length (start + new.length) := by
  simp only [overwrite, List.length_append, List.length_take, List.length_drop]
  omega

/-! ### The slot commands -/

theorem State.onSlot_slotsSound {s : State} (p : List Byte) {f : Fin 8 → Answer} (hs : s.SlotsSound)
    (h : ∀ i, (f i).st.SlotsSound) : (s.onSlot p f).st.SlotsSound := by
  unfold State.onSlot
  split
  · exact h _
  · exact hs

theorem State.openSlot_slotsSound {s : State} (hs : s.SlotsSound) (i : Fin 8) : (s.openSlot i).st.SlotsSound := by
  unfold State.openSlot
  dsimp only
  split
  · exact hs
  · split
    · exact hs
    · refine State.putSlot_slotsSound i hs ?_
      obtain ⟨hp, -, hg, -, -, -, -⟩ := hs.1 i
      exact ⟨hp, Nat.zero_le _, hg, Nat.zero_le _, nofun, fun _ => rfl, nofun⟩

theorem State.writeParams_slotsSound {s : State} (hs : s.SlotsSound) (i : Fin 8) (r : List Byte) :
    (s.writeParams i r).st.SlotsSound := by
  unfold State.writeParams
  dsimp only
  split
  · exact hs
  · split
    · exact hs
    · rename_i hload
      split
      · exact hs
      · refine State.putSlot_slotsSound i hs ?_
        obtain ⟨hp, hpp, hg, hgp, hsealed, hdigest, -⟩ := hs.1 i
        rw [ne_eq, not_not] at hload
        refine ⟨hp, hpp, hg, hgp, fun h => ⟨rfl, (hsealed h).2⟩, hdigest, fun h => ?_⟩
        exact SlotState.noConfusion (hload.symm.trans h)

/-- A write at an index within the probe table keeps the slot in bounds (R10, R12). -/
theorem State.writeProbes_slotsSound {s : State} (hs : s.SlotsSound) (i : Fin 8) {start : Nat}
    (hstart : start ≤ (s.dieSlot i).probes.length) (rs : List (List Byte)) :
    (s.writeProbes i start rs).st.SlotsSound := by
  unfold State.writeProbes
  dsimp only
  split
  · exact hs
  · split
    · exact hs
    · rename_i hload
      split
      · exact hs
      · rename_i hfits
        split
        · exact hs
        · refine State.putSlot_slotsSound i hs ?_
          obtain ⟨hp, -, hg, hgp, hsealed, hdigest, -⟩ := hs.1 i
          rw [ne_eq, not_not] at hload
          refine ⟨?_, ?_, hg, hgp, hsealed, hdigest, fun h => SlotState.noConfusion (hload.symm.trans h)⟩ <;>
            simp only [overwrite_length _ _ _ hstart, List.length_map] <;> omega

/-- A write at an index within the gauge table keeps the slot in bounds (R10, R13). -/
theorem State.writeGauges_slotsSound {s : State} (hs : s.SlotsSound) (i : Fin 8) {start : Nat}
    (hstart : start ≤ (s.dieSlot i).gauges.length) (rs : List (List Byte)) :
    (s.writeGauges i start rs).st.SlotsSound := by
  unfold State.writeGauges
  dsimp only
  split
  · exact hs
  · split
    · exact hs
    · rename_i hload
      split
      · exact hs
      · rename_i hfits
        split
        · exact hs
        · refine State.putSlot_slotsSound i hs ?_
          obtain ⟨hp, hpp, hg, -, hsealed, hdigest, -⟩ := hs.1 i
          rw [ne_eq, not_not] at hload
          refine ⟨hp, hpp, ?_, ?_, hsealed, hdigest, fun h => SlotState.noConfusion (hload.symm.trans h)⟩ <;>
            simp only [overwrite_length _ _ _ hstart, List.length_map] <;> omega

/-- Seal check 1: a slot that passes the checks has its parameters written (R16). -/
theorem params_isSome_of_sealFault_none {quad : PerHead (Fin 4)} {d : DieSlot} (h : sealFault quad d = none) :
    d.params.isSome = true := by
  unfold sealFault at h
  split at h
  · cases h
  · rename_i hp
    exact Option.isSome_iff_ne_none.2 fun hnone => hp (Option.isNone_iff_eq_none.2 hnone)

theorem State.sealSlot_slotsSound {s : State} (hs : s.SlotsSound) (i : Fin 8) : (s.sealSlot i).st.SlotsSound := by
  unfold State.sealSlot
  dsimp only
  split
  · exact hs
  · exact hs
  · split
    · exact hs
    · rename_i hok
      refine State.putSlot_slotsSound i hs ?_
      obtain ⟨hp, hpp, hg, hgp, -, -, -⟩ := hs.1 i
      exact ⟨hp, hpp, hg, hgp, fun _ => ⟨params_isSome_of_sealFault_none hok, rfl⟩, fun h => absurd rfl h, nofun⟩

theorem State.eraseSlot_slotsSound {s : State} (hs : s.SlotsSound) (i : Fin 8) : (s.eraseSlot i).st.SlotsSound := by
  unfold State.eraseSlot
  dsimp only
  split
  · exact hs
  · split
    · exact hs
    · exact State.putSlot_slotsSound i hs (.erased _)

/-! ### The directory commands -/

/-- A new entry takes the place of its die's entry or is added (R24): no die ID comes to stand twice. -/
theorem mapDirectory_nodup {dir : List DirEntry} (e : DirEntry) (h : (dir.map DirEntry.die).Nodup) :
    ((mapDirectory dir e).map DirEntry.die).Nodup := by
  unfold mapDirectory
  split
  · have hsame : (dir.map fun x => if x.die = e.die then e else x).map DirEntry.die = dir.map DirEntry.die := by
      rw [List.map_map]
      refine List.map_congr_left fun x _ => ?_
      by_cases hx : x.die = e.die <;> simp [hx]
    rwa [hsame]
  · rename_i hnew
    simp only [List.any_eq_true, beq_iff_eq, not_exists, not_and] at hnew
    rw [List.map_append, List.nodup_append]
    refine ⟨h, by simp, fun a ha b hb => ?_⟩
    obtain ⟨x, hx, rfl⟩ := List.mem_map.1 ha
    obtain rfl : b = e.die := by simpa using hb
    exact hnew x hx

theorem mapDirectory_length (dir : List DirEntry) (e : DirEntry) :
    (mapDirectory dir e).length = if dir.any (fun x => x.die == e.die) then dir.length else dir.length + 1 := by
  unfold mapDirectory
  split <;> simp

theorem State.mapDie_slotsSound {s : State} (hs : s.SlotsSound) (die : Nat) (slot enabled : Byte) :
    (s.mapDie die slot enabled).st.SlotsSound := by
  unfold State.mapDie
  split
  · exact hs
  · split
    · exact hs
    · split
      · rename_i hroom
        obtain ⟨-, hlen, hnodup⟩ := id hs
        refine State.setDir_slotsSound hs ?_ (mapDirectory_nodup _ hnodup)
        rw [mapDirectory_length]
        split
        · exact hlen
        · rename_i hnew
          exact hroom.resolve_left hnew
      · exact hs

theorem State.unmapDie_slotsSound {s : State} (hs : s.SlotsSound) (die : Nat) : (s.unmapDie die).st.SlotsSound := by
  unfold State.unmapDie
  split
  · exact hs
  · split
    · obtain ⟨-, hlen, hnodup⟩ := id hs
      exact State.setDir_slotsSound hs ((List.length_filter_le _ _).trans hlen)
        (hnodup.sublist (List.filter_sublist.map _))
    · exact hs

/-! ### The commit of a switch or of a revert, and the soft reset -/

theorem State.clearBusy_slotsSound {s : State} (hs : s.SlotsSound) : s.clearBusy.SlotsSound := by
  unfold State.clearBusy
  split
  · exact State.putSlot_slotsSound _ hs ((hs.1 _).setBusy false)
  · exact hs

/-- What a commit writes in the slot being left is nothing, or that its link is none (R136, R142). -/
theorem State.writeLeftLink_slotsSound {s : State} (hs : s.SlotsSound) {l : Option (Option SlotLink)}
    (hl : l = none ∨ l = some none) : (s.writeLeftLink l).SlotsSound := by
  unfold State.writeLeftLink
  split
  · rename_i link _
    obtain rfl : link = none := by simpa using hl
    exact State.putSlot_slotsSound _ hs (hs.1 _).clearLink
  · exact hs

/-- An update of a slot that keeps its state keeps every slot's state. -/
theorem State.putSlot_state (s : State) {j : Fin 8} {d : DieSlot} (hd : d.state = (s.dieSlot j).state) (i : Fin 8) :
    ((s.putSlot j d).dieSlot i).state = (s.dieSlot i).state := by
  by_cases h : i = j
  · rw [h, s.putSlot_dieSlot_self, hd]
  · rw [s.putSlot_dieSlot_other d h]

theorem State.writeLeftLink_state (s : State) (l : Option (Option SlotLink)) (i : Fin 8) :
    ((s.writeLeftLink l).dieSlot i).state = (s.dieSlot i).state := by
  unfold State.writeLeftLink
  split
  · exact s.putSlot_state (by rfl) i
  · rfl

theorem State.clearBusy_state (s : State) (i : Fin 8) : (s.clearBusy.dieSlot i).state = (s.dieSlot i).state := by
  unfold State.clearBusy
  split
  · exact s.putSlot_state (by rfl) i
  · rfl

/-- A commit to a SEALED slot (R133 check 4, R141 check 4) keeps the slots and the directory in bounds. -/
theorem State.commitContext_slotsSound {s : State} (hs : s.SlotsSound) (c : Commit)
    (hsealed : (s.dieSlot c.target).state = .sealed) (hleft : c.leftLink = none ∨ c.leftLink = some none) :
    (s.commitContext c).SlotsSound := by
  have hu : (s.writeLeftLink c.leftLink).clearBusy.SlotsSound :=
    State.clearBusy_slotsSound (State.writeLeftLink_slotsSound hs hleft)
  have hstate : ((s.writeLeftLink c.leftLink).clearBusy.dieSlot c.target).state = .sealed := by
    rw [State.clearBusy_state, State.writeLeftLink_state, hsealed]
  have htarget := ((hu.1 c.target).setLink hstate c.targetLink).setBusy true
  exact SlotFrame.sound ⟨rfl, rfl⟩ (State.putSlot_slotsSound c.target hu htarget)

theorem State.commit_slotsSound {s : State} (hs : s.SlotsSound) (c : Commit)
    (hsealed : (s.dieSlot c.target).state = .sealed) (hleft : c.leftLink = none ∨ c.leftLink = some none) :
    (s.commit c).SlotsSound := by
  have hclose : SlotFrame s (s.closePiece .dieEnd s.pt.settled) := (State.closePiece_frame _ _ _).slotFrame
  unfold State.commit
  generalize s.closePiece .dieEnd s.pt.settled = u at hclose
  dsimp only
  generalize hv : State.commitContext _ c = v
  have hsound : v.SlotsSound := by
    rw [← hv]
    refine State.commitContext_slotsSound ?_ c ?_ hleft
    · exact SlotFrame.sound ⟨hclose.slots, hclose.dir⟩ hs
    · rw [← hsealed]
      exact congrArg (fun slots : Vector DieSlot 8 => slots[c.target].state) hclose.slots
  exact SlotFrame.sound ⟨rfl, rfl⟩ hsound

theorem State.switchFailed_slotFrame (s : State) (check : Nat) (code : ResultCode) (detail : Nat) :
    SlotFrame s (s.switchFailed check code detail).st := .of_cc rfl

theorem State.dieChange_slotsSound {s : State} (hs : s.SlotsSound) (die : Nat) : (s.dieChange die).st.SlotsSound := by
  have hfail (check : Nat) (code : ResultCode) (detail : Nat) : (s.switchFailed check code detail).st.SlotsSound :=
    (s.switchFailed_slotFrame check code detail).sound hs
  unfold State.dieChange
  split
  · exact hfail _ _ _
  · split
    · exact hfail _ _ _
    · split
      · exact hfail _ _ _
      · dsimp only
        split
        · exact hfail _ _ _
        · rename_i hsealed
          split
          · exact hfail _ _ _
          · split
            · exact hfail _ _ _
            · exact State.commit_slotsSound hs _ (not_not.1 hsealed) (.inl rfl)

theorem State.revertSwitch_slotsSound {s : State} (hs : s.SlotsSound) : s.revertSwitch.st.SlotsSound := by
  have hfail (check : Nat) (code : ResultCode) (detail : Nat) : (s.switchFailed check code detail).st.SlotsSound :=
    (s.switchFailed_slotFrame check code detail).sound hs
  unfold State.revertSwitch
  split
  · exact hfail _ _ _
  · split
    · exact hfail _ _ _
    · split
      · exact hfail _ _ _
      · dsimp only
        split
        · exact hfail _ _ _
        · split
          · exact hfail _ _ _
          · rename_i hok
            obtain ⟨hsealed, -⟩ := not_or.1 hok
            split
            · exact hfail _ _ _
            · exact State.commit_slotsSound hs _ (not_not.1 hsealed) (.inr rfl)

theorem State.softReset_slotsSound {s : State} (hs : s.SlotsSound) : s.softReset.SlotsSound := by
  obtain ⟨hslots, hdir⟩ := hs
  refine ⟨fun i => ?_, hdir⟩
  have hi : s.softReset.dieSlot i = { s.dieSlot i with busy := false } := by
    simp [State.softReset, State.dieSlot]
  rw [hi]
  exact (hslots i).setBusy false

theorem State.reset_dieSlot (i : Fin 8) : State.reset.dieSlot i = DieSlot.fresh := by
  simp [State.reset, State.dieSlot]

theorem State.reset_slotsSound : State.reset.SlotsSound := by
  refine ⟨fun i => ?_, by decide, by decide⟩
  rw [State.reset_dieSlot]
  simp [DieSlot.fresh, DieSlot.Sound]

/-! ### The other commands -/

theorem State.setGeometry_cc (s : State) (p : List Byte) : (s.setGeometry p).st.cc = s.cc := by
  unfold State.setGeometry
  split <;> first | rfl | (split <;> rfl)

theorem State.setHeads_slotFrame (s : State) (e t m r : Nat) : SlotFrame s (s.setHeads e t m r).st := by
  unfold State.setHeads
  split
  · exact .refl s
  · split
    · exact .refl s
    · exact (State.settleSections_frame _).slotFrame.after rfl

theorem State.setHeadCal_cc (s : State) (h : Byte) (x y z : Int) : (s.setHeadCal h x y z).st.cc = s.cc := by
  unfold State.setHeadCal
  split
  · rfl
  · split <;> rfl

theorem State.startEngine_slotFrame (s : State) : SlotFrame s s.startEngine.st := by
  unfold State.startEngine
  split <;> exact ⟨rfl, rfl⟩

theorem State.haltEngine_slotFrame (s : State) : SlotFrame s s.haltEngine.st := by
  unfold State.haltEngine
  split <;> exact ⟨rfl, rfl⟩

theorem State.answerMark_slotFrame (s : State) (look : Nat × Bool) (formed : Nat) (m : Mark) :
    SlotFrame s (s.answerMark look formed m).st := (s.deliverMark_frame m).slotFrame

theorem State.ramStop_slotFrame (s : State) (a n : Nat) : SlotFrame s (s.ramStop a n).st := by
  unfold State.ramStop
  dsimp only
  split
  case h_1 => exact .refl s
  case h_2 => split <;> exact .of_cc rfl
  all_goals
    split
    · exact .refl s
    · exact (State.answerMark_slotFrame _ _ _ _).after rfl

theorem State.ramStart_slotFrame (s : State) (a n b : Nat) : SlotFrame s (s.ramStart a n b).st := by
  unfold State.ramStart
  dsimp only
  split
  case h_1 => exact .refl s
  case h_2 => split <;> exact .of_cc rfl
  all_goals
    split
    · exact .refl s
    · split
      · split
        · exact .of_cc rfl
        · exact (State.answerMark_slotFrame _ _ _ _).after rfl
      · exact .of_cc rfl

theorem State.cutNotice_slotFrame (s : State) (a n : Nat) : SlotFrame s (s.cutNotice a n).st := by
  unfold State.cutNotice
  dsimp only
  split
  case h_1 => exact .refl s
  case h_2 => exact .refl s
  all_goals exact s.answerMark_slotFrame _ _ _

theorem State.fetchFirst_cc (s : State) : s.fetchFirst.st.cc = s.cc := by
  unfold State.fetchFirst
  split <;> rfl

theorem State.fetchNext_cc (s : State) : s.fetchNext.st.cc = s.cc := by
  unfold State.fetchNext
  split
  · rfl
  · split <;> rfl

theorem State.setFetchPointer_cc (s : State) (k : Nat) : (s.setFetchPointer k).st.cc = s.cc := by
  unfold State.setFetchPointer
  split
  · rfl
  · split <;> rfl

theorem State.release_cc (s : State) (n : Nat) : (s.release n).st.cc = s.cc := by
  unfold State.release
  split
  · rfl
  · split <;> rfl

theorem State.ackAlerts_cc (s : State) (mask : FlagSet) : (s.ackAlerts mask).st.cc = s.cc := by
  simp only [State.ackAlerts, State.reloadBurst, State.taken]
  split <;> rfl

theorem State.setMatch_cc (s : State) (action coord : Nat) : (s.setMatch action coord).st.cc = s.cc := by
  unfold State.setMatch
  split
  · split <;> rfl
  · split <;> rfl
  · rfl

/-! ### Every step -/

/-- Every command keeps the slots and the directory in bounds. -/
theorem State.runCommand_slotsSound {s : State} (hs : s.SlotsSound) (c : Command) (a : Nat) (p : List Byte) :
    (s.runCommand c a p).st.SlotsSound := by
  cases c
  case identify => exact hs
  case sense => exact hs
  case getStatus => exact hs
  case setGeometry => exact (SlotFrame.of_cc (s.setGeometry_cc p)).sound hs
  case setHeads => exact (s.setHeads_slotFrame _ _ _ _).sound hs
  case setHeadCal => exact (SlotFrame.of_cc (s.setHeadCal_cc _ _ _ _)).sound hs
  case openSlot => exact State.onSlot_slotsSound p hs (State.openSlot_slotsSound hs)
  case writeParams => exact State.onSlot_slotsSound p hs fun i => State.writeParams_slotsSound hs i _
  case writeProbesFirst =>
    exact State.onSlot_slotsSound p hs fun i => State.writeProbes_slotsSound hs i (Nat.zero_le _) _
  case writeProbesNext =>
    refine State.onSlot_slotsSound p hs fun i => State.writeProbes_slotsSound hs i ?_ _
    obtain ⟨-, hptr, -⟩ := hs.1 i
    exact hptr
  case writeGaugesFirst =>
    exact State.onSlot_slotsSound p hs fun i => State.writeGauges_slotsSound hs i (Nat.zero_le _) _
  case writeGaugesNext =>
    refine State.onSlot_slotsSound p hs fun i => State.writeGauges_slotsSound hs i ?_ _
    obtain ⟨-, -, -, hptr, -⟩ := hs.1 i
    exact hptr
  case sealSlot => exact State.onSlot_slotsSound p hs (State.sealSlot_slotsSound hs)
  case eraseSlot => exact State.onSlot_slotsSound p hs (State.eraseSlot_slotsSound hs)
  case querySlot => exact State.onSlot_slotsSound p hs fun _ => hs
  case mapDie => exact State.mapDie_slotsSound hs _ _ _
  case unmapDie => exact State.unmapDie_slotsSound hs _
  case dieChange => exact State.dieChange_slotsSound hs _
  case revert => exact State.revertSwitch_slotsSound hs
  case start => exact s.startEngine_slotFrame.sound hs
  case halt => exact s.haltEngine_slotFrame.sound hs
  case noteRamStop => exact (s.ramStop_slotFrame _ _).sound hs
  case noteRamStart => exact (s.ramStart_slotFrame _ _ _).sound hs
  case noteCut => exact (s.cutNotice_slotFrame _ _).sound hs
  case fetchFirst => exact (SlotFrame.of_cc s.fetchFirst_cc).sound hs
  case fetchNext => exact (SlotFrame.of_cc s.fetchNext_cc).sound hs
  case setFetchPointer => exact (SlotFrame.of_cc (s.setFetchPointer_cc _)).sound hs
  case release => exact (SlotFrame.of_cc (s.release_cc _)).sound hs
  case setTrace => exact hs
  case setNotices => exact hs
  case ackAlerts => exact (SlotFrame.of_cc (s.ackAlerts_cc _)).sound hs
  case setMatch => exact (SlotFrame.of_cc (s.setMatch_cc _ _)).sound hs
  case resetEngine => exact State.softReset_slotsSound hs

theorem State.answerFrame_slotsSound {s : State} (hs : s.SlotsSound) (f : CmdFrame) :
    (s.answerFrame f).st.SlotsSound := by
  unfold State.answerFrame
  split
  · exact hs
  · split
    · exact State.runCommand_slotsSound hs _ _ _
    · exact hs

theorem State.takeFrame_slotsSound {s : State} (hs : s.SlotsSound) : s.takeFrame.SlotsSound := by
  unfold State.takeFrame
  split
  · rename_i f rest _ _
    exact State.answerFrame_slotsSound (s := s.setLp { s.lp with queue := rest }) hs f
  · exact hs

/-- The end of a step, in which the decoder may take frames, keeps the slots and the directory in bounds. -/
theorem State.settle_slotsSound {s : State} (hs : s.SlotsSound) : s.settle.SlotsSound :=
  State.takeFrame_slotsSound ((SlotFrame.of_cc (State.transmit_cc _)).sound (State.takeFrame_slotsSound hs))

theorem State.fire_slotFrame (s : State) (t : Nat) (d : Due) : SlotFrame s (s.fire t d) := by
  cases d with
  | sample => exact .of_cc rfl
  | spacing => exact .of_cc rfl
  | timeout seq => exact (State.cascade_frame _).slotFrame.after rfl
  | compilation => exact (State.compilationDone_slotFrame _).after rfl

theorem State.runTimers_slotsSound :
    ∀ (n : Nat) {s : State}, s.SlotsSound → ∀ limit, (State.runTimers n s limit).SlotsSound
  | 0, _, hs, _ => hs
  | n + 1, s, hs, limit => by
    unfold State.runTimers
    split
    · exact hs
    · exact State.runTimers_slotsSound n (State.settle_slotsSound ((s.fire_slotFrame _ _).sound hs)) limit

theorem State.driven_slotsSound {s : State} (hs : s.SlotsSound) (t : Nat) (d : Due) : (s.driven t d).SlotsSound :=
  (State.fire_slotFrame _ t d).sound (State.runTimers_slotsSound _ hs t)

theorem State.spacingRow_slotsSound {s : State} (hs : s.SlotsSound) : s.spacingRow.SlotsSound := by
  unfold State.spacingRow
  split
  · exact State.driven_slotsSound hs _ _
  · exact hs

theorem State.timeoutRow_slotsSound {s : State} (hs : s.SlotsSound) (seq : Seq) : (s.timeoutRow seq).SlotsSound := by
  unfold State.timeoutRow
  split
  · exact State.driven_slotsSound hs _ _
  · exact hs

theorem State.tick_slotsSound {s : State} (hs : s.SlotsSound) : s.tick.SlotsSound := by
  unfold State.tick
  split
  · exact hs
  · exact (SlotFrame.of_cc rfl).sound (State.runTimers_slotsSound _ hs _)

theorem State.hardReset_slotsSound {s : State} (hs : s.SlotsSound) (n : Nat) : (s.hardReset n).SlotsSound := by
  unfold State.hardReset
  split
  · exact hs
  · exact (SlotFrame.of_cc rfl).sound State.reset_slotsSound

/-- A row's answer is a next state in bounds. -/
def NextSlotsSound (o : Host.Outcome State Fault Refusal) : Prop := ∃ t, o = .next t ∧ t.SlotsSound

/-- A row that is an event keeps the bounds when its effect does. -/
theorem event_slotsSound {f : State → State} {s : State} (hs : s.SlotsSound) (hf : (f s).SlotsSound) :
    NextSlotsSound (event f s) := by
  refine ⟨_, rfl, ?_⟩
  split
  · exact hs
  · exact State.settle_slotsSound hf

theorem commandFrame_slotsSound {s : State} (hs : s.SlotsSound) (code tag : Byte) (p : List Byte) :
    NextSlotsSound (commandFrame code tag p s) :=
  event_slotsSound hs ((SlotFrame.of_cc (s.goodCommand_cc code tag p)).sound hs)

theorem exec_slotsSound {s : State} (hs : s.SlotsSound) (i : Instr) : NextSlotsSound (exec i s) := by
  cases i
  case wheelCount a b => exact event_slotsSound (f := (·.wheel a b)) hs ((s.wheel_slotFrame a b).sound hs)
  case sampleTick => exact event_slotsSound (f := State.sampleTick) hs (State.driven_slotsSound hs _ _)
  case spacingTimerExpiry => exact event_slotsSound (f := State.spacingRow) hs (State.spacingRow_slotsSound hs)
  case assemblyTimeoutExpiry seq =>
    exact event_slotsSound (f := (·.timeoutRow seq)) hs (State.timeoutRow_slotsSound hs seq)
  case sectionFrameReceived h run =>
    exact event_slotsSound (f := (·.sectionFrameEnds h run)) hs ((s.headHears_slotFrame h _ _ run).sound hs)
  case headLockLoss h => exact event_slotsSound (f := (·.headLockLoss h)) hs ((s.headLockLoss_slotFrame h).sound hs)
  case headSymbolError h inFrame run sym =>
    exact event_slotsSound (f := (·.headSymbolError h inFrame run sym)) hs ((s.headHears_slotFrame h _ _ _).sound hs)
  case sectionEvaluation =>
    exact event_slotsSound (f := State.evaluateNext) hs ((SlotFrame.of_cc s.evaluateNext_cc).sound hs)
  case sectionApplication => exact event_slotsSound (f := State.applySection) hs (s.applySection_slotFrame.sound hs)
  case compilationComplete =>
    exact event_slotsSound (f := State.compilationDone) hs (s.compilationDone_slotFrame.sound hs)
  case lineFrameReceived run =>
    exact event_slotsSound (f := (·.lineFrameEnds run)) hs ((s.lineHears_slotFrame _ _ run).sound hs)
  case lineLockLoss inFrame =>
    exact event_slotsSound (f := (·.lineLockLoss inFrame)) hs ((SlotFrame.of_cc (s.lineLockLoss_cc inFrame)).sound hs)
  case lineSymbolError inFrame run sym =>
    exact event_slotsSound (f := (·.lineSymbolError inFrame run sym)) hs ((s.lineHears_slotFrame _ _ _).sound hs)
  case transmitFrameEnd => exact event_slotsSound (f := State.frameEnd) hs hs
  case hardReset n => exact ⟨_, rfl, State.hardReset_slotsSound hs n⟩
  case hardResetRelease => exact ⟨_, rfl, hs⟩
  case headLockGain h =>
    exact event_slotsSound (f := (·.headLockGain h)) hs ((SlotFrame.of_cc (s.headLockGain_cc h)).sound hs)
  case lineLockGain => exact event_slotsSound (f := State.lineLockGain) hs hs
  all_goals exact commandFrame_slotsSound hs _ _ _

/-- Settles O14: each row's effect leaves the slots and the directory, or changes them within their bounds. -/
theorem slotLawKept : Obligations.SlotLawKept := by
  intro s t hs hstep
  unfold step at hstep
  split at hstep
  · rename_i c rest _
    obtain ⟨u, hu, hsound⟩ := exec_slotsSound (s := s.setPending rest) hs c
    rw [hu] at hstep
    cases hstep
    exact hsound
  · cases hstep
    exact State.tick_slotsSound hs

end Sys2Proof.Machine
end

section
/-! A command row at a free decoder, read once: its block answers, and a slot command reaches its slot (R8, R173). -/

namespace Sys2Proof.Machine

theorem commandOfCode_code (c : Command) : commandOfCode c.code = some c := by cases c <;> rfl

theorem exec_commandRow (c : Command) (tag : Byte) (p : List Byte) (s : State) :
    exec (commandRow c tag p) s = commandFrame c.code tag p s := by cases c <;> rfl

/-- A command whose payload has the required length is answered by the block that owns it (R173 step 3). -/
theorem exec_taken {s : State} (hs : s.Listening) {c : Command} {tag : Byte} {p : List Byte}
    (hlen : lengthOk c p = true) :
    exec (commandRow c tag p) s = .next (s.replyTo c tag p (s.runCommand c s.lt.time p)) := by
  obtain ⟨hreset, hslot, hqueue⟩ := hs
  have hrun : s.answerFrame { code := c.code, tag := tag, payload := p, arrival := s.lt.time } =
      s.runCommand c s.lt.time p := by
    simp only [State.answerFrame, commandOfCode_code, hlen, if_true]
  rw [exec_commandRow, commandFrame, event, hreset, s.goodCommand_settle hslot hqueue, hrun]
  rfl

/-- The same with the block's answer named. -/
theorem exec_answered {s : State} (hs : s.Listening) {c : Command} {tag : Byte} {p : List Byte} {a : Answer}
    (hlen : lengthOk c p = true) (ha : s.runCommand c s.lt.time p = a) :
    exec (commandRow c tag p) s = .next (s.replyTo c tag p a) := by
  rw [exec_taken hs hlen, ha]

/-- The byte of a slot number names the slot (R8). -/
@[simp] theorem slotOf_ofNat (i : Fin 8) : slotOf (BitVec.ofNat 8 i.val) = some i := by
  fin_cases i <;> rfl

theorem slotOf_eq_none {b : Byte} (h : 7 < b.toNat) : slotOf b = none := dif_neg (by omega)

/-- A slot number of 0 to 7 names the slot of that number (R8). -/
theorem slotOf_eq_some {b : Byte} (h : b.toNat ≤ 7) : slotOf b = some (Fin.ofNat 8 b.toNat) := by
  have hlt : b.toNat < 8 := by omega
  simp [slotOf, hlt, Fin.ofNat, Nat.mod_eq_of_lt hlt]

@[simp] theorem State.onSlot_slot (s : State) (i : Fin 8) (p : List Byte) (f : Fin 8 → Answer) :
    s.onSlot (BitVec.ofNat 8 i.val :: p) f = f i := by
  simp [State.onSlot, byteAt]

theorem State.onSlot_noSlot (s : State) {n : Byte} (hn : 7 < n.toNat) (p : List Byte) (f : Fin 8 → Answer) :
    s.onSlot (n :: p) f = ⟨s, .badValue, 0, .summaryOnly⟩ := by
  simp [State.onSlot, byteAt, slotOf_eq_none hn, State.refuse]

end Sys2Proof.Machine
end

section
/-! The statements on the slot number, on opening, erasing and querying a slot, on the directory, and on reset. -/

namespace Sys2Proof.Machine

/-- Settles O44: each of the nine commands runs on the slot of its first byte, which names none. -/
theorem slotNumberRefused : Obligations.SlotNumberRefused := by
  intro c tag n p s hs hn hc hlen
  refine exec_answered hs hlen ?_
  simp only [List.mem_cons, List.not_mem_nil, or_false] at hc
  rcases hc with rfl | rfl | rfl | rfl | rfl | rfl | rfl | rfl | rfl <;> exact s.onSlot_noSlot hn p _

/-- Settles O45, each command by the slot's state. -/
theorem slotOpenedErasedQueried : Obligations.SlotOpenedErasedQueried := by
  intro tag i s hs d p
  refine ⟨exec_answered (c := .openSlot) hs rfl ?_, exec_answered (c := .eraseSlot) hs rfl ?_,
    exec_answered (c := .querySlot) hs rfl ?_⟩
  · refine (s.onSlot_slot i [] _).trans ?_
    unfold State.openSlot
    change (if d.busy = true then _ else _) = _
    split
    · rfl
    · cases hstate : d.state <;> simp [d, State.taken]
  · refine (s.onSlot_slot i [] _).trans ?_
    unfold State.eraseSlot
    change (if d.busy = true then _ else _) = _
    split
    · rfl
    · cases hstate : d.state <;> simp [d, State.taken, DieSlot.erased, DieSlot.fresh]
  · exact s.onSlot_slot i [] _

/-- Whether a die ID stands in a directory. -/
theorem any_die_iff (dir : List DirEntry) (die : Nat) :
    dir.any (fun x => x.die == die) = true ↔ ∃ e ∈ dir, e.die = die := by simp

/-- MAP_DIE with a die ID and a slot number in range (R24): by whether the die ID is known, and by the room left. -/
theorem State.mapDie_inRange (s : State) {die : Nat} {slot en : Byte} (hdie : die ≠ 0) (hslot : slot.toNat ≤ 7) :
    let dir := s.cc.dir
    let new : DirEntry := { die := die, slot := Fin.ofNat 8 slot.toNat, enabled := en != 0 }
    s.mapDie die slot en =
      if ∃ e ∈ dir, e.die = die then
        ⟨s.setCc { s.cc with dir := dir.map fun e => if e.die = die then new else e }, .ok, 0, .entries dir.length⟩
      else if dir.length < 32 then ⟨s.setCc { s.cc with dir := dir ++ [new] }, .ok, 0, .entries (dir.length + 1)⟩
      else ⟨s, .tableOverrun, 0, .summaryOnly⟩ := by
  intro dir new
  unfold State.mapDie
  simp only [if_neg hdie, slotOf_eq_some hslot, mapDirectory, any_die_iff]
  by_cases hknown : ∃ e ∈ s.cc.dir, e.die = die
  · simp [hknown, dir, new, State.taken]
  · simp only [hknown, false_or, dir]
    split
    · simp [new, State.taken]
    · rfl

/-- UNMAP_DIE with a die ID in range (R25). -/
theorem State.unmapDie_inRange (s : State) {die : Nat} (hdie : die ≠ 0) :
    let removed := s.cc.dir.filter fun e => decide (e.die ≠ die)
    s.unmapDie die =
      if ∃ e ∈ s.cc.dir, e.die = die then ⟨s.setCc { s.cc with dir := removed }, .ok, 0, .entries removed.length⟩
      else ⟨s, .noEffect, 0, .entries s.cc.dir.length⟩ := by
  have htest (e : DirEntry) : (e.die != die) = decide (e.die ≠ die) := by rw [Bool.eq_iff_iff]; simp
  unfold State.unmapDie
  simp only [if_neg hdie, any_die_iff, htest]
  rfl

/-- Settles O50: the die ID and the slot number in range first, then by the directory. -/
theorem dieMappedUnmapped : Obligations.DieMappedUnmapped := by
  intro tag slot en die s hs hdie dir known new replaced removed p
  have hread : natAt (leBytes 2 die) 0 2 = die := leNat_leBytes_of_lt (n := 2) hdie
  refine ⟨exec_answered (c := .mapDie) hs rfl ?_, exec_answered (c := .unmapDie) hs rfl ?_⟩
  · have hen : (en != 0) = decide (en ≠ 0) := by rw [Bool.eq_iff_iff]; simp
    change s.mapDie (natAt (leBytes 2 die) 0 2) slot en = _
    rw [hread]
    by_cases hzero : die = 0
    · simp [State.mapDie, State.refuse, hzero]
    · by_cases hslot : 7 < slot.toNat
      · simp [State.mapDie, State.refuse, hzero, slotOf_eq_none hslot, hslot]
      · rw [if_neg hzero, if_neg hslot, s.mapDie_inRange hzero (by omega), hen]
  · change s.unmapDie (natAt (leBytes 2 die) 0 2) = _
    rw [hread]
    by_cases hzero : die = 0
    · simp [State.unmapDie, State.refuse, hzero]
    · rw [if_neg hzero, s.unmapDie_inRange hzero]

theorem State.reset_head (h : Fin 4) : State.reset.head h = Head.fresh := by
  fin_cases h <;> rfl

theorem State.reset_activation (i : Fin 8) : State.reset.cc.activation[i] = none := by
  simp [State.reset]

/-- Settles O3: every slot, every head and every activation die ID, then the registers. -/
theorem resetHoldsTheHardResetValues : Obligations.ResetHoldsTheHardResetValues := by
  have hhead (h : Fin 4) : (State.reset.head h).status = .hunting ∧ (State.reset.head h).miss = 0 ∧
      (State.reset.head h).recov = 0 ∧ (State.reset.head h).fault = .clear ∧ (State.reset.head h).ox = 0 ∧
      (State.reset.head h).oy = 0 ∧ (State.reset.head h).scale = 0 ∧ (State.reset.head h).lock = false := by
    rw [State.reset_head]
    exact ⟨rfl, rfl, rfl, rfl, rfl, rfl, rfl, rfl⟩
  refine ⟨State.reset_dieSlot, rfl, rfl, rfl, rfl, State.reset_activation, rfl, rfl, ?_⟩
  iterate 10 refine ⟨rfl, ?_⟩
  refine ⟨hhead, ?_⟩
  and_intros <;> rfl

end Sys2Proof.Machine
end

section
/-! The records of a table write (R6, R7, R10, R12 to R14, R185): cutting the payload into records, reading a record
back from its bytes, and one account of a write for the probe table and the gauge table. -/

namespace Sys2Proof.Machine

/-! ### The records of a payload -/

theorem recordCount_of_length {n : Nat} (h1 : 1 ≤ n) (h16 : n ≤ 16) :
    recordCount (BitVec.ofNat 8 (n % 16)) = some n := by
  interval_cases n <;> rfl

/-- The payload of a table write on a slot (R185). -/
def tablePayload (i : Fin 8) (records : List (List Byte)) : List Byte :=
  BitVec.ofNat 8 i.val :: BitVec.ofNat 8 (records.length % 16) :: records.flatten

theorem recordsOf_flatten {size : Nat} {records : List (List Byte)} (h : ∀ r ∈ records, r.length = size) :
    recordsOf size records.length records.flatten = records := by
  induction records with
  | nil => rfl
  | cons r rest ih =>
    rw [List.forall_mem_cons] at h
    obtain ⟨rfl, hrest⟩ := h
    simp [recordsOf, ih hrest]

theorem flatten_length {size : Nat} {records : List (List Byte)} (h : ∀ r ∈ records, r.length = size) :
    records.flatten.length = records.length * size := by
  rw [List.length_flatten, List.map_congr_left h, List.map_const', List.sum_replicate, smul_eq_mul]

theorem tableLengthOk_payload {size : Nat} (i : Fin 8) {records : List (List Byte)} (h1 : 1 ≤ records.length)
    (h16 : records.length ≤ 16) (h : ∀ r ∈ records, r.length = size) :
    tableLengthOk size (tablePayload i records) = true := by
  simp only [tableLengthOk, tablePayload, recordCount_of_length h1 h16, flatten_length h, beq_self_eq_true]

theorem tableRecords_payload {size : Nat} (i : Fin 8) {records : List (List Byte)} (h1 : 1 ≤ records.length)
    (h16 : records.length ≤ 16) (h : ∀ r ∈ records, r.length = size) :
    tableRecords size (tablePayload i records) = records := by
  have hcount : recordCount (byteAt (tablePayload i records) 1) = some records.length := recordCount_of_length h1 h16
  rw [tableRecords, hcount]
  exact recordsOf_flatten h

/-- The first invalid record of a run is the first whose value fails the test (R14). -/
theorem firstInvalid_map {α : Type} {ok : List Byte → Bool} {bytes : α → List Byte} {good : α → Bool} (rs : List α)
    (h : ∀ r ∈ rs, ok (bytes r) = good r) (k : Nat) :
    firstInvalid ok k (rs.map bytes) = (rs.findIdx? fun r => !good r).map (k + ·) := by
  induction rs generalizing k with
  | nil => rfl
  | cons r rest ih =>
    rw [List.forall_mem_cons] at h
    obtain ⟨hr, hrest⟩ := h
    rw [List.map_cons, firstInvalid, hr, ih hrest, List.findIdx?_cons]
    cases good r
    · simp
    · simp [Function.comp_def, Nat.add_comm, Nat.add_left_comm]

/-- Behind valid records, an invalid one is the first. -/
theorem firstInvalid_append {ok : List Byte → Bool} {front : List (List Byte)} {bad : List Byte}
    (hfront : ∀ r ∈ front, ok r = true) (hbad : ok bad = false) (k : Nat) :
    firstInvalid ok k (front ++ [bad]) = some (k + front.length) := by
  induction front generalizing k with
  | nil => simp [firstInvalid, hbad]
  | cons r rest ih =>
    rw [List.forall_mem_cons] at hfront
    obtain ⟨hr, hrest⟩ := hfront
    simp [firstInvalid, hr, ih hrest, Nat.add_assoc, Nat.add_comm 1]

/-! ### A table of a die slot -/

/-- A record table of a die slot: its capacity, its records as bytes, the range check, and its place in the slot. -/
structure RecordTable (α : Type) where
  capacity : Nat
  size : Nat
  bytes : α → List Byte
  read : List Byte → α
  ok : List Byte → Bool
  records : DieSlot → List α
  put : DieSlot → List α → Nat → DieSlot

def probeTable : RecordTable ProbeRec where
  capacity := 64
  size := 25
  bytes := ProbeRec.bytes
  read := probeOf
  ok := probeOk
  records := DieSlot.probes
  put := fun d table ptr => { d with probes := table, probePtr := ptr }

def gaugeTable : RecordTable GaugeRec where
  capacity := 32
  size := 21
  bytes := GaugeRec.bytes
  read := gaugeOf
  ok := gaugeOk
  records := DieSlot.gauges
  put := fun d table ptr => { d with gauges := table, gaugePtr := ptr }

theorem probeTable_ok : probeTable.ok = probeOk := by simp only [probeTable]
theorem probeTable_bytes : probeTable.bytes = ProbeRec.bytes := by simp only [probeTable]
theorem gaugeTable_ok : gaugeTable.ok = gaugeOk := by simp only [gaugeTable]
theorem gaugeTable_bytes : gaugeTable.bytes = GaugeRec.bytes := by simp only [gaugeTable]

/-- A write of records at a start index of a table (R10, R12 to R14). -/
def RecordTable.write {α : Type} (T : RecordTable α) (s : State) (i : Fin 8) (start : Nat)
    (records : List (List Byte)) : Answer :=
  let d := s.dieSlot i
  if d.busy then s.refuse .busy 0
  else if d.state ≠ .loading then s.refuse .wrongState 0
  else if T.capacity < start + records.length then s.refuse .tableOverrun 0
  else match firstInvalid T.ok start records with
    | some k => s.refuse .badValue k
    | none =>
      let table := overwrite (T.records d) start (records.map T.read)
      let ptr := start + records.length
      (s.putSlot i (T.put d table ptr)).taken .ok (.tableWrite ptr table.length)

/-- What the rules give for a write of record values at a start index, where `good` is a record's range (R10, R14). -/
def RecordTable.answer {α : Type} (T : RecordTable α) (good : α → Bool) (s : State) (i : Fin 8) (rs : List α)
    (start : Nat) : Answer :=
  let d := s.dieSlot i
  if d.busy then ⟨s, .busy, 0, .summaryOnly⟩
  else if d.state ≠ .loading then ⟨s, .wrongState, 0, .summaryOnly⟩
  else if T.capacity < start + rs.length then ⟨s, .tableOverrun, 0, .summaryOnly⟩
  else match rs.findIdx? fun r => !good r with
    | some k => ⟨s, .badValue, start + k, .summaryOnly⟩
    | none =>
      let table := (T.records d).take start ++ rs ++ (T.records d).drop (start + rs.length)
      ⟨s.putSlot i (T.put d table (start + rs.length)), .ok, 0, .tableWrite (start + rs.length) table.length⟩

/-- The values' bytes have the record size and read back as the values, and their check is their range. -/
structure RecordTable.ReadsBack {α : Type} (T : RecordTable α) (good : α → Bool) (rs : List α) : Prop where
  size : ∀ r ∈ rs, (T.bytes r).length = T.size
  read : ∀ r ∈ rs, T.read (T.bytes r) = r
  ok : ∀ r ∈ rs, T.ok (T.bytes r) = good r

/-- A write of record values is answered as the rules give. -/
theorem RecordTable.write_eq_answer {α : Type} {T : RecordTable α} {good : α → Bool} {rs : List α}
    (h : T.ReadsBack good rs) (s : State) (i : Fin 8) (start : Nat) :
    T.write s i start (rs.map T.bytes) = T.answer good s i rs start := by
  have hvalues : (rs.map T.bytes).map T.read = rs := by
    rw [List.map_map]
    exact (List.map_congr_left h.read).trans (List.map_id rs)
  unfold RecordTable.write RecordTable.answer
  rw [firstInvalid_map rs h.ok, hvalues, List.length_map]
  cases rs.findIdx? fun r => !good r <;> rfl

/-- A write whose last record alone is invalid, in a slot that takes writes and at a place in the table (R14). -/
theorem RecordTable.write_badLast {α : Type} (T : RecordTable α) {s : State} {i : Fin 8} {start : Nat}
    {front : List (List Byte)} {bad : List Byte} (hfront : ∀ r ∈ front, T.ok r = true) (hbad : T.ok bad = false)
    (hbusy : (s.dieSlot i).busy = false) (hload : (s.dieSlot i).state = .loading)
    (hfits : start + front.length + 1 ≤ T.capacity) :
    T.write s i start (front ++ [bad]) = ⟨s, .badValue, start + front.length, .summaryOnly⟩ := by
  have hlen : ¬ T.capacity < start + (front ++ [bad]).length := by
    rw [List.length_append, List.length_singleton]
    omega
  simp only [RecordTable.write, hbusy, hload, hlen, firstInvalid_append hfront hbad, State.refuse, ne_eq,
    not_true_eq_false, Bool.false_eq_true, if_false]

/-! ### The commands that write a table -/

/-- A command writes its records in a table, from a start index that the slot gives (R12, R13). -/
structure WritesTable {α : Type} (c : Command) (T : RecordTable α) (start : DieSlot → Nat) : Prop where
  length : ∀ p, lengthOk c p = tableLengthOk T.size p
  run : ∀ (s : State) (a : Nat) (p : List Byte), s.runCommand c a p =
    s.onSlot p fun i => T.write s i (start (s.dieSlot i)) (tableRecords T.size p)

theorem writeProbesFirst_writesTable : WritesTable .writeProbesFirst probeTable fun _ => 0 :=
  ⟨fun _ => rfl, fun _ _ _ => rfl⟩

theorem writeProbesNext_writesTable : WritesTable .writeProbesNext probeTable DieSlot.probePtr :=
  ⟨fun _ => rfl, fun _ _ _ => rfl⟩

theorem writeGaugesFirst_writesTable : WritesTable .writeGaugesFirst gaugeTable fun _ => 0 :=
  ⟨fun _ => rfl, fun _ _ _ => rfl⟩

theorem writeGaugesNext_writesTable : WritesTable .writeGaugesNext gaugeTable DieSlot.gaugePtr :=
  ⟨fun _ => rfl, fun _ _ _ => rfl⟩

section
variable {α : Type} {c : Command} {T : RecordTable α} {start : DieSlot → Nat} {s : State} {good : α → Bool}
  {rs : List α}

theorem WritesTable.exec_row (W : WritesTable c T start) (hs : s.Listening) (tag : Byte) (i : Fin 8)
    {records : List (List Byte)} (h1 : 1 ≤ records.length) (h16 : records.length ≤ 16)
    (hsize : ∀ r ∈ records, r.length = T.size) :
    exec (commandRow c tag (tablePayload i records)) s =
      .next (s.replyTo c tag (tablePayload i records) (T.write s i (start (s.dieSlot i)) records)) := by
  refine exec_answered hs ((W.length _).trans (tableLengthOk_payload i h1 h16 hsize)) ?_
  rw [W.run, tableRecords_payload i h1 h16 hsize]
  exact s.onSlot_slot i _ _

/-- A table write of 1 to 16 record values. -/
theorem WritesTable.exec_values (W : WritesTable c T start) (hs : s.Listening) (tag : Byte) (i : Fin 8)
    (h1 : 1 ≤ rs.length) (h16 : rs.length ≤ 16) (h : T.ReadsBack good rs) :
    let p := BitVec.ofNat 8 i.val :: BitVec.ofNat 8 (rs.length % 16) :: rs.flatMap T.bytes
    exec (commandRow c tag p) s =
      .next (s.replyTo c tag p (T.answer good s i rs (start (s.dieSlot i)))) := by
  have hrow := W.exec_row hs tag i (records := rs.map T.bytes) (by rwa [List.length_map]) (by rwa [List.length_map])
    (List.forall_mem_map.2 h.size)
  rw [RecordTable.write_eq_answer h] at hrow
  rwa [tablePayload, List.length_map, ← List.flatMap_def] at hrow

/-- A table write whose last record is invalid as its bytes stand, behind valid values (R14). -/
theorem WritesTable.exec_badLast (W : WritesTable c T start) (hs : s.Listening) (tag : Byte) (i : Fin 8)
    (h : T.ReadsBack good rs) {k : Nat} (hk : k ≤ rs.length) (h15 : k ≤ 15) (hgood : ∀ r ∈ rs.take k, good r = true)
    {rec : List Byte} (hsize : rec.length = T.size) (hbad : T.ok rec = false) (hbusy : (s.dieSlot i).busy = false)
    (hload : (s.dieSlot i).state = .loading) (hfits : start (s.dieSlot i) + k + 1 ≤ T.capacity) :
    let q := BitVec.ofNat 8 i.val :: BitVec.ofNat 8 ((k + 1) % 16) :: ((rs.take k).flatMap T.bytes ++ rec)
    exec (commandRow c tag q) s =
      .next (s.replyTo c tag q ⟨s, .badValue, start (s.dieSlot i) + k, .summaryOnly⟩) := by
  have hfront : ((rs.take k).map T.bytes).length = k := by rw [List.length_map, List.length_take, Nat.min_eq_left hk]
  have hlen : ((rs.take k).map T.bytes ++ [rec]).length = k + 1 := by simp [hk]
  have hvalid : ∀ b ∈ (rs.take k).map T.bytes, T.ok b = true := List.forall_mem_map.2 fun r hr =>
    (h.ok r (List.mem_of_mem_take hr)).trans (hgood r hr)
  have hsizes : ∀ b ∈ (rs.take k).map T.bytes ++ [rec], b.length = T.size := by
    simp only [List.mem_append, List.mem_map, List.mem_singleton]
    rintro b (⟨r, hr, rfl⟩ | rfl)
    · exact h.size r (List.mem_of_mem_take hr)
    · exact hsize
  have hrow := W.exec_row hs tag i (by omega) (by omega) hsizes
  rw [T.write_badLast hvalid hbad hbusy hload (by rwa [hfront]), hfront] at hrow
  rwa [tablePayload, hlen, List.flatten_append, List.flatten_singleton, ← List.flatMap_def] at hrow

end

/-! ### Reading a record back from its bytes -/

/-- A one-byte field is its byte, also behind the end of the bytes. -/
theorem natAt_one (bs : List Byte) (o : Nat) : natAt bs o 1 = (bs.getD o 0).toNat := by
  unfold natAt
  rw [List.getD_eq_getElem?_getD, ← List.head?_drop]
  cases bs.drop o <;> simp [leNat]

/-- A four-byte signed field reads back whole. -/
theorem leInt_leIntBytes4 {v : Int} (h1 : -2147483648 ≤ v) (h2 : v < 2147483648) : leInt (leIntBytes 4 v) = v :=
  leInt_leIntBytes (n := 4) (by norm_num; omega) (by norm_num; omega)

/-- A four-byte unsigned field reads back whole. -/
theorem leNat_leBytes4 {v : Nat} (h : v < 4294967296) : leNat (leBytes 4 v) = v := leNat_leBytes_of_lt (n := 4) h

/-- A two-byte unsigned field reads back whole. -/
theorem leNat_leBytes2 {v : Nat} (h : v < 65536) : leNat (leBytes 2 v) = v := leNat_leBytes_of_lt (n := 2) h

/-- A one-byte unsigned field reads back whole. -/
theorem leNat_leBytes1 {v : Nat} (h : v < 256) : leNat (leBytes 1 v) = v := leNat_leBytes_of_lt (n := 1) h

/-- The fields of a probe record fit the bytes they are sent in. -/
structure ProbeRec.Fits (r : ProbeRec) : Prop where
  uLo : -2147483648 ≤ r.uLo ∧ r.uLo < 2147483648
  uHi : -2147483648 ≤ r.uHi ∧ r.uHi < 2147483648
  wLo : r.wLo < 4294967296
  wHi : r.wHi < 4294967296
  step : r.step < 4294967296
  minPts : r.minPts < 256

/-- The ranges of a probe record (R6). -/
def ProbeRec.InRange (r : ProbeRec) : Prop :=
  -200000 ≤ r.uLo ∧ r.uLo < r.uHi ∧ r.uHi ≤ 200000 ∧ r.wLo < r.wHi ∧ r.wHi ≤ 500000 ∧
  (r.kind = .edge → r.dir.toNat ≤ 1 ∧ 1 ≤ r.step ∧ r.step ≤ 100000) ∧
  (r.kind = .surface → 1 ≤ r.minPts ∧ r.minPts ≤ 64)

@[simp] theorem ProbeRec.bytes_length (r : ProbeRec) : r.bytes.length = 25 := by simp [ProbeRec.bytes]

@[simp] theorem probeKindOf_code (k : ProbeKind) : probeKindOf (BitVec.ofNat 8 k.code) = k := by cases k <;> rfl

@[simp] theorem axisOf_code (a : Axis) : axisOf (BitVec.ofNat 8 a.code) = a := by cases a <;> rfl

@[simp] theorem fourOf_ofNat (h : Fin 4) : fourOf (BitVec.ofNat 8 h.val) = h := by fin_cases h <;> rfl

/-- What the wide fields of a probe record read back as. -/
theorem ProbeRec.Fits.fields {r : ProbeRec} (h : r.Fits) :
    intAt r.bytes 2 4 = r.uLo ∧ intAt r.bytes 6 4 = r.uHi ∧ natAt r.bytes 10 4 = r.wLo ∧ natAt r.bytes 14 4 = r.wHi ∧
    natAt r.bytes 19 4 = r.step ∧ natAt r.bytes 23 1 = r.minPts :=
  ⟨leInt_leIntBytes4 h.uLo.1 h.uLo.2, leInt_leIntBytes4 h.uHi.1 h.uHi.2, leNat_leBytes4 h.wLo, leNat_leBytes4 h.wHi,
    leNat_leBytes4 h.step, leNat_leBytes1 h.minPts⟩

/-- The bytes of the narrow fields of a probe record. -/
theorem ProbeRec.bytes_codes (r : ProbeRec) :
    byteAt r.bytes 0 = BitVec.ofNat 8 r.kind.code ∧ byteAt r.bytes 1 = BitVec.ofNat 8 r.head.val ∧
    byteAt r.bytes 18 = r.dir ∧ byteAt r.bytes 24 = BitVec.ofNat 8 r.axis.code := ⟨rfl, rfl, rfl, rfl⟩

theorem probeOf_bytes {r : ProbeRec} (h : r.Fits) : probeOf r.bytes = r := by
  obtain ⟨huLo, huHi, hwLo, hwHi, hstep, hminPts⟩ := h.fields
  obtain ⟨hkind, hhead, hdir, haxis⟩ := r.bytes_codes
  simp only [probeOf, huLo, huHi, hwLo, hwHi, hstep, hminPts, hkind, hhead, hdir, haxis, probeKindOf_code, axisOf_code,
    fourOf_ofNat]

/-- The check of the bytes of a probe record is its range: the codes of a record that was laid out name something. -/
theorem probeOk_bytes {r : ProbeRec} (h : r.Fits) : probeOk r.bytes = true ↔ r.InRange := by
  obtain ⟨huLo, huHi, hwLo, hwHi, hstep, hminPts⟩ := h.fields
  obtain ⟨hkind, -, -, -⟩ := r.bytes_codes
  have hcodes : natAt r.bytes 0 1 ≤ 1 ∧ natAt r.bytes 1 1 ≤ 3 ∧ natAt r.bytes 24 1 ≤ 1 := by
    refine ⟨?_, ?_, ?_⟩
    · change leNat (leBytes 1 r.kind.code) ≤ 1
      cases r.kind <;> decide
    · change leNat (leBytes 1 r.head.val) ≤ 3
      rw [leNat_leBytes1] <;> omega
    · change leNat (leBytes 1 r.axis.code) ≤ 1
      cases r.axis <;> decide
  obtain ⟨hk, hh, ha⟩ := hcodes
  have hdir : natAt r.bytes 18 1 = r.dir.toNat := natAt_one _ _
  unfold probeOk ProbeRec.InRange
  rw [hkind, probeKindOf_code, huLo, huHi, hwLo, hwHi, hstep, hminPts, hdir]
  simp only [natIn, intIn, Bool.and_eq_true, decide_eq_true_eq]
  cases r.kind <;> simp <;> omega

/-- A record whose kind, head or axis code names none is invalid (R6). -/
theorem probeOk_badCode {rec : List Byte}
    (h : 1 < (rec.getD 0 0).toNat ∨ 3 < (rec.getD 1 0).toNat ∨ 1 < (rec.getD 24 0).toNat) : probeOk rec = false := by
  rw [← Bool.not_eq_true]
  simp only [probeOk, natAt_one, natIn, Bool.and_eq_true, decide_eq_true_eq]
  omega

/-- The fields of a gauge record fit the bytes they are sent in; probe b is not the byte of an absent one. -/
structure GaugeRec.Fits (r : GaugeRec) : Prop where
  a : r.a < 256
  b : ∀ b ∈ r.b, b < 255
  datum : -2147483648 ≤ r.datum ∧ r.datum < 2147483648
  nominal : -2147483648 ≤ r.nominal ∧ r.nominal < 2147483648
  tolLo : -2147483648 ≤ r.tolLo ∧ r.tolLo < 2147483648
  tolHi : -2147483648 ≤ r.tolHi ∧ r.tolHi < 2147483648
  warn : r.warn < 256

/-- The ranges of a gauge record (R7). -/
def GaugeRec.InRange (r : GaugeRec) : Prop :=
  r.a ≤ 63 ∧ (r.b.all fun b => decide (b ≤ 63)) = true ∧
  (if r.kind = .spanX ∨ r.kind = .spanY then 1 ≤ r.nominal else r.datum.natAbs ≤ 999999 ∧ -999999 ≤ r.nominal) ∧
  r.nominal ≤ 999999 ∧ -99999 ≤ r.tolLo ∧ r.tolLo ≤ 0 ∧ 0 ≤ r.tolHi ∧ r.tolHi ≤ 99999 ∧ 50 ≤ r.warn ∧ r.warn ≤ 100

@[simp] theorem GaugeRec.bytes_length (r : GaugeRec) : r.bytes.length = 21 := by simp [GaugeRec.bytes]

@[simp] theorem gaugeKindOf_code (k : GaugeKind) : gaugeKindOf (BitVec.ofNat 8 k.code) = k := by cases k <;> rfl

/-- What the wide fields of a gauge record read back as. -/
theorem GaugeRec.Fits.fields {r : GaugeRec} (h : r.Fits) :
    natAt r.bytes 2 1 = r.a ∧ intAt r.bytes 4 4 = r.datum ∧ intAt r.bytes 8 4 = r.nominal ∧
    intAt r.bytes 12 4 = r.tolLo ∧ intAt r.bytes 16 4 = r.tolHi ∧ natAt r.bytes 20 1 = r.warn :=
  ⟨leNat_leBytes1 h.a, leInt_leIntBytes4 h.datum.1 h.datum.2, leInt_leIntBytes4 h.nominal.1 h.nominal.2,
    leInt_leIntBytes4 h.tolLo.1 h.tolLo.2, leInt_leIntBytes4 h.tolHi.1 h.tolHi.2, leNat_leBytes1 h.warn⟩

/-- The bytes of the narrow fields of a gauge record. -/
theorem GaugeRec.bytes_codes (r : GaugeRec) :
    byteAt r.bytes 0 = r.enabledByte ∧ byteAt r.bytes 1 = BitVec.ofNat 8 r.kind.code ∧
    byteAt r.bytes 3 = BitVec.ofNat 8 (r.b.getD 255) := ⟨rfl, rfl, rfl⟩

/-- Probe b reads back from its byte, absent from 255 (R184). -/
theorem probeRefOf_getD {b : Option Nat} (h : ∀ x ∈ b, x < 255) : probeRefOf (BitVec.ofNat 8 (b.getD 255)) = b := by
  cases b with
  | none => rfl
  | some x =>
    have hx : x < 255 := h x rfl
    have hne : BitVec.ofNat 8 x ≠ 255 := fun e => by
      have := congrArg BitVec.toNat e
      simp only [BitVec.toNat_ofNat, BitVec.reduceToNat] at this
      omega
    rw [Option.getD_some, probeRefOf, if_neg hne, BitVec.toNat_ofNat, Nat.mod_eq_of_lt (by omega)]

theorem gaugeOf_bytes {r : GaugeRec} (h : r.Fits) : gaugeOf r.bytes = r := by
  obtain ⟨ha, hdatum, hnominal, htolLo, htolHi, hwarn⟩ := h.fields
  obtain ⟨henabled, hkind, hb⟩ := r.bytes_codes
  simp only [gaugeOf, ha, hdatum, hnominal, htolLo, htolHi, hwarn, henabled, hkind, hb, gaugeKindOf_code,
    probeRefOf_getD h.b]

/-- The check of the bytes of a gauge record is its range: the kind code of a record that was laid out names a kind. -/
theorem gaugeOk_bytes {r : GaugeRec} (h : r.Fits) : gaugeOk r.bytes = true ↔ r.InRange := by
  obtain ⟨ha, hdatum, hnominal, htolLo, htolHi, hwarn⟩ := h.fields
  obtain ⟨-, hkind, -⟩ := r.bytes_codes
  have hcode : natAt r.bytes 1 1 ≤ 3 := by
    change leNat (leBytes 1 r.kind.code) ≤ 3
    cases r.kind <;> decide
  have hb : natIn 0 63 (natAt r.bytes 3 1) = true ∨ natAt r.bytes 3 1 = 255 ↔
      (r.b.all fun b => decide (b ≤ 63)) = true := by
    have hread : natAt r.bytes 3 1 = r.b.getD 255 := leNat_leBytes1 (by
      cases hb : r.b with
      | none => decide
      | some x => exact (h.b x hb).trans (by decide))
    rw [hread]
    cases hb : r.b with
    | none => simp
    | some x =>
      have := h.b x hb
      simp [natIn]
      omega
  unfold gaugeOk GaugeRec.InRange
  rw [← hb, hkind, gaugeKindOf_code, ha, hdatum, hnominal, htolLo, htolHi, hwarn]
  simp only [Bool.and_eq_true, Bool.or_eq_true, beq_iff_eq]
  simp only [natIn, intIn, decide_eq_true_eq]
  cases r.kind <;> simp [GaugeKind.isSpan] <;> omega

/-- A record whose kind code names none is invalid (R7). -/
theorem gaugeOk_badCode {rec : List Byte} (h : 3 < (rec.getD 1 0).toNat) : gaugeOk rec = false := by
  rw [← Bool.not_eq_true]
  simp only [gaugeOk, natAt_one, natIn, Bool.and_eq_true, decide_eq_true_eq]
  omega

end Sys2Proof.Machine
end

section
/-! The statements on the table writes. -/

namespace Sys2Proof.Machine

theorem probeTable_readsBack {rs : List ProbeRec} (h : ∀ r ∈ rs, r.Fits) {good : ProbeRec → Bool}
    (hgood : ∀ r, good r = true ↔ r.InRange) : probeTable.ReadsBack good rs where
  size r _ := r.bytes_length
  read r hr := probeOf_bytes (h r hr)
  ok r hr := by rw [probeTable_ok, probeTable_bytes, Bool.eq_iff_iff, hgood, probeOk_bytes (h r hr)]

theorem gaugeTable_readsBack {rs : List GaugeRec} (h : ∀ r ∈ rs, r.Fits) {good : GaugeRec → Bool}
    (hgood : ∀ r, good r = true ↔ r.InRange) : gaugeTable.ReadsBack good rs where
  size r _ := r.bytes_length
  read r hr := gaugeOf_bytes (h r hr)
  ok r hr := by rw [gaugeTable_ok, gaugeTable_bytes, Bool.eq_iff_iff, hgood, gaugeOk_bytes (h r hr)]

/-- Settles O47: the payload is cut into the values' bytes, each of which is valid exactly when its value is in range; a
record with a code that names nothing fails the check whatever else it holds. -/
theorem probesWritten : Obligations.ProbesWritten := by
  intro tag i rs s hs h1 h16 hbounds d p ok answer
  have hback : probeTable.ReadsBack (fun r => decide (ok r)) rs := by
    refine probeTable_readsBack (fun r hr => ?_) fun r => decide_eq_true_iff
    obtain ⟨hu1, hu2, hu3, hu4, hw1, hw2, hstep, hmin⟩ := hbounds r hr
    exact ⟨⟨hu1, hu2⟩, ⟨hu3, hu4⟩, hw1, hw2, hstep, hmin⟩
  have hanswer (start : Nat) : probeTable.answer (fun r => decide (ok r)) s i rs start = answer start := by
    simp only [answer, decide_not]
    rfl
  refine ⟨?_, ?_, fun k rec hsize hk h15 hgood hbusy hload hbad => ⟨?_, fun hfits => ?_⟩⟩
  · rw [← hanswer]
    exact writeProbesFirst_writesTable.exec_values hs tag i h1 h16 hback
  · rw [← hanswer]
    exact writeProbesNext_writesTable.exec_values hs tag i h1 h16 hback
  · have hrow := writeProbesFirst_writesTable.exec_badLast hs tag i hback hk h15
      (fun r hr => decide_eq_true (hgood r hr)) hsize (probeOk_badCode hbad) hbusy hload (by simp [probeTable]; omega)
    rwa [Nat.zero_add] at hrow
  · exact writeProbesNext_writesTable.exec_badLast hs tag i hback hk h15 (fun r hr => decide_eq_true (hgood r hr))
      hsize (probeOk_badCode hbad) hbusy hload hfits

/-- Settles O48, as for probes. -/
theorem gaugesWritten : Obligations.GaugesWritten := by
  intro tag i rs s hs h1 h16 hbounds d p ok answer
  have hback : gaugeTable.ReadsBack (fun r => decide (ok r)) rs := by
    refine gaugeTable_readsBack (fun r hr => ?_) fun r => decide_eq_true_iff
    obtain ⟨ha, hb, hd1, hd2, hn1, hn2, hl1, hl2, hh1, hh2, hwarn⟩ := hbounds r hr
    exact ⟨ha, hb, ⟨hd1, hd2⟩, ⟨hn1, hn2⟩, ⟨hl1, hl2⟩, ⟨hh1, hh2⟩, hwarn⟩
  have hanswer (start : Nat) : gaugeTable.answer (fun r => decide (ok r)) s i rs start = answer start := by
    simp only [answer, decide_not]
    rfl
  refine ⟨?_, ?_, fun k rec hsize hk h15 hgood hbusy hload hbad => ⟨?_, fun hfits => ?_⟩⟩
  · rw [← hanswer]
    exact writeGaugesFirst_writesTable.exec_values hs tag i h1 h16 hback
  · rw [← hanswer]
    exact writeGaugesNext_writesTable.exec_values hs tag i h1 h16 hback
  · have hrow := writeGaugesFirst_writesTable.exec_badLast hs tag i hback hk h15
      (fun r hr => decide_eq_true (hgood r hr)) hsize (gaugeOk_badCode hbad) hbusy hload (by simp [gaugeTable]; omega)
    rwa [Nat.zero_add] at hrow
  · exact writeGaugesNext_writesTable.exec_badLast hs tag i hback hk h15 (fun r hr => decide_eq_true (hgood r hr))
      hsize (gaugeOk_badCode hbad) hbusy hload hfits

end Sys2Proof.Machine
end

section
/-! The die parameter record (R4, R11, R185): its bytes read back, and the first field out of range. -/

namespace Sys2Proof.Machine

/-! ### The first failing check -/

/-- The number of the first check that fails, 0 when none does. -/
def failCode (checks : List (Nat × Bool)) : Nat := (firstFailing checks).getD 0

@[simp] theorem failCode_nil : failCode [] = 0 := rfl

@[simp] theorem failCode_cons (n : Nat) (ok : Bool) (rest : List (Nat × Bool)) :
    failCode ((n, ok) :: rest) = if ok = false then n else failCode rest := by
  cases ok <;> rfl

theorem firstFailing_eq_some {checks : List (Nat × Bool)} {n : Nat} (h : firstFailing checks = some n) :
    n ∈ checks.map Prod.fst := by
  induction checks with
  | nil => cases h
  | cons c rest ih =>
    obtain ⟨m, ok⟩ := c
    cases ok
    · obtain rfl : m = n := Option.some.inj h
      exact List.mem_cons_self
    · exact List.mem_cons_of_mem _ (ih h)

/-- Where no check has the number 0, the code 0 says that none fails. -/
theorem firstFailing_eq_failCode {checks : List (Nat × Bool)} (h : 0 ∉ checks.map Prod.fst) :
    firstFailing checks = if failCode checks = 0 then none else some (failCode checks) := by
  cases hf : firstFailing checks with
  | none => simp [failCode, hf]
  | some n =>
    have hn : n ≠ 0 := fun e => h (e ▸ firstFailing_eq_some hf)
    simp [failCode, hf, hn]

theorem natIn_eq_false {lo hi v : Nat} : natIn lo hi v = false ↔ ¬ (lo ≤ v ∧ v ≤ hi) := decide_eq_false_iff_not

theorem natIn_zero_eq_false {hi v : Nat} : natIn 0 hi v = false ↔ hi < v := by
  rw [natIn_eq_false]
  omega

/-! ### The bytes of the record -/

/-- The fields of a die parameter record fit the bytes they are sent in. -/
structure Params.Fits (r : Params) : Prop where
  echo : r.echo < 65536
  pitch : r.pitch < 65536
  spacing : r.spacing < 65536
  binLen : r.binLen < 65536
  frontCrop : r.frontCrop < 65536
  backCrop : r.backCrop < 65536
  stopHalf : r.stopHalf < 65536
  weldLead : r.weldLead < 4294967296
  weldLen : r.weldLen < 4294967296
  expansion : r.expansion < 65536
  tRef : r.tRef < 65536
  tDef : r.tDef < 65536
  minQuality : r.minQuality < 256
  ungaugedLimit : r.ungaugedLimit < 256
  burstLimit : r.burstLimit < 256

/-- The record's bytes with a policy byte as it is sent. -/
def Params.sentBytes (r : Params) (policy : Byte) : List Byte := r.bytes.set 29 policy

theorem Params.sentBytes_length (r : Params) (policy : Byte) : (r.sentBytes policy).length = 32 := by
  simp [Params.sentBytes, Params.bytes]

theorem Params.sentBytes_eq (r : Params) (policy : Byte) : r.sentBytes policy =
    leBytes 2 r.echo ++ (leBytes 2 r.pitch ++ (leBytes 2 r.spacing ++ (leBytes 2 r.binLen ++ (leBytes 2 r.frontCrop ++
    (leBytes 2 r.backCrop ++ (leBytes 2 r.stopHalf ++ (leBytes 4 r.weldLead ++ (leBytes 4 r.weldLen ++
    (leBytes 2 r.expansion ++ (leBytes 2 r.tRef ++ (leBytes 2 r.tDef ++ (leBytes 1 r.minQuality ++
    (leBytes 1 policy.toNat ++ (leBytes 1 r.ungaugedLimit ++ leBytes 1 r.burstLimit)))))))))))))) := by
  simp [Params.sentBytes, Params.bytes, leBytes]

/-- A field behind another is read in what follows that one. -/
theorem natAt_behind {k o n v : Nat} {rest : List Byte} (h : k ≤ o) :
    natAt (leBytes k v ++ rest) o n = natAt rest (o - k) n := by
  rw [natAt, natAt, List.drop_append, List.drop_eq_nil_of_le (by simpa using h), leBytes_length, List.nil_append]

/-- The field at the front reads back whole. -/
theorem natAt_front {n v : Nat} {rest : List Byte} (h : v < 256 ^ n) : natAt (leBytes n v ++ rest) 0 n = v := by
  rw [natAt, List.drop_zero, List.take_append_of_le_length (leBytes_length n v).ge,
    List.take_of_length_le (leBytes_length n v).le, leNat_leBytes_of_lt h]

theorem natAt_whole {n v : Nat} (h : v < 256 ^ n) : natAt (leBytes n v) 0 n = v := by
  simpa using natAt_front (rest := []) h

/-- What the fields of a sent record read back as. -/
structure Params.ReadsAs (r : Params) (policy : Byte) (bs : List Byte) : Prop where
  echo : natAt bs 0 2 = r.echo
  pitch : natAt bs 2 2 = r.pitch
  spacing : natAt bs 4 2 = r.spacing
  binLen : natAt bs 6 2 = r.binLen
  frontCrop : natAt bs 8 2 = r.frontCrop
  backCrop : natAt bs 10 2 = r.backCrop
  stopHalf : natAt bs 12 2 = r.stopHalf
  weldLead : natAt bs 14 4 = r.weldLead
  weldLen : natAt bs 18 4 = r.weldLen
  expansion : natAt bs 22 2 = r.expansion
  tRef : natAt bs 24 2 = r.tRef
  tDef : natAt bs 26 2 = r.tDef
  minQuality : natAt bs 28 1 = r.minQuality
  policy : natAt bs 29 1 = policy.toNat
  ungaugedLimit : natAt bs 30 1 = r.ungaugedLimit
  burstLimit : natAt bs 31 1 = r.burstLimit

theorem Params.Fits.readsAs {r : Params} (h : r.Fits) (policy : Byte) : r.ReadsAs policy (r.sentBytes policy) := by
  obtain ⟨hecho, hpitch, hspacing, hbin, hfront, hback, hstop, hlead, hlen, hexp, href, hdef, hquality, hungauged,
    hburst⟩ := h
  rw [Params.sentBytes_eq]
  have hpolicy : policy.toNat < 256 := policy.isLt
  constructor <;>
    simp only [natAt_behind, natAt_front, natAt_whole, Nat.reduceLeDiff, Nat.reduceSub, Nat.reducePow, Nat.le_refl,
      hecho, hpitch, hspacing, hbin, hfront, hback, hstop, hlead, hlen, hexp, href, hdef, hquality, hpolicy, hungauged,
      hburst]

theorem paramsOf_sentBytes {r : Params} (h : r.Fits) (policy : Byte) :
    paramsOf (r.sentBytes policy) = { r with policy := BitVec.ofNat 4 policy.toNat } := by
  have k := h.readsAs policy
  simp only [paramsOf, k.echo, k.pitch, k.spacing, k.binLen, k.frontCrop, k.backCrop, k.stopHalf, k.weldLead, k.weldLen,
    k.expansion, k.tRef, k.tDef, k.minQuality, k.policy, k.ungaugedLimit, k.burstLimit]

/-- The number of the lowest-numbered field out of range, 0 when the record is in range (R4). -/
def Params.faultCode (r : Params) (policy : Byte) : Nat :=
  if ¬ (10 ≤ r.pitch ∧ r.pitch ≤ 1000) then 2 else if ¬ (250 ≤ r.spacing ∧ r.spacing ≤ 10000) then 3
  else if ¬ (100 ≤ r.binLen ∧ r.binLen ≤ 10000) then 4 else if 50000 < r.frontCrop then 5
  else if 50000 < r.backCrop then 6 else if 5000 < r.stopHalf then 7 else if 100000 < r.weldLead then 8
  else if 200000 < r.weldLen then 9 else if 5000 < r.expansion then 10 else if 400 < r.tRef then 11
  else if 7000 < r.tDef then 12 else if r.minQuality = 0 then 13 else if 15 < policy.toNat then 14
  else if 100 < r.ungaugedLimit then 15 else 0

theorem paramsFault_sentBytes {r : Params} (h : r.Fits) (policy : Byte) :
    paramsFault (r.sentBytes policy) =
      if r.faultCode policy = 0 then none else some (r.faultCode policy) := by
  have k := h.readsAs policy
  have hburst : ¬ 255 < r.burstLimit := Nat.not_lt.2 (Nat.le_of_lt_succ h.burstLimit)
  have hquality : natIn 1 255 r.minQuality = false ↔ r.minQuality = 0 := by
    have := h.minQuality
    rw [natIn_eq_false]
    omega
  unfold paramsFault
  rw [firstFailing_eq_failCode (by simp)]
  simp only [failCode_cons, failCode_nil, k.pitch, k.spacing, k.binLen, k.frontCrop, k.backCrop, k.stopHalf, k.weldLead,
    k.weldLen, k.expansion, k.tRef, k.tDef, k.minQuality, k.policy, k.ungaugedLimit, k.burstLimit, hquality,
    natIn_zero_eq_false, if_neg hburst]
  simp only [natIn_eq_false]
  rfl

/-- Settles O46: the sent bytes read back as the record, and their checks as its ranges. -/
theorem paramsWritten : Obligations.ParamsWritten := by
  intro tag i r policy s hs h1 h2 h3 h4 h5 h6 h7 h8 h9 h10 h11 h12 h13 h15 h16 d p n
  have hfits : r.Fits := ⟨h1, h2, h3, h4, h5, h6, h7, h8, h9, h10, h11, h12, h13, h15, h16⟩
  have hlen : lengthOk .writeParams p = true := beq_iff_eq.2 (congrArg (· + 1) (r.sentBytes_length policy))
  have hcode : r.faultCode policy = n := rfl
  refine exec_answered (c := .writeParams) hs hlen ((s.onSlot_slot i _ _).trans ?_)
  change s.writeParams i (r.sentBytes policy) = _
  unfold State.writeParams
  rw [paramsFault_sentBytes hfits, paramsOf_sentBytes hfits, hcode]
  by_cases hn : n = 0
  · rw [if_pos hn, if_neg (not_not.2 hn)]
    rfl
  · rw [if_neg hn, if_pos hn]
    rfl

end Sys2Proof.Machine
end

section
/-! The seal checks (R15 to R19). -/

namespace Sys2Proof.Machine

/-- A probe's kind and the quadrant of its head give x exactly when an even quadrant meets EDGE, or an odd one SURFACE
(R18, R73). -/
theorem axisGiven_eq (q : Fin 4) (k : ProbeKind) :
    axisGiven q k = if decide (q = 0 ∨ q = 2) = decide (k = .edge) then .x else .y := by
  fin_cases q <;> cases k <;> rfl

theorem GaugeKind.axis_eq (k : GaugeKind) : k.axis = if k = .spanX ∨ k = .posX then .x else .y := by
  cases k <;> rfl

theorem GaugeKind.isSpan_eq (k : GaugeKind) : k.isSpan = decide (k = .spanX ∨ k = .spanY) := by
  cases k <;> rfl

theorem GaugeRec.none_enabled_iff (gauges : List GaugeRec) :
    (!gauges.any GaugeRec.enabled) = gauges.all fun g => g.enabledByte == 0 := by
  simp only [List.not_any_eq_all_not, GaugeRec.enabled, bne, Bool.not_not]

/-- The seal checks as cases: the first that fails in their order, with the index of the first record that fails it. -/
theorem sealFault_eq (quad : PerHead (Fin 4)) (d : DieSlot) :
    sealFault quad d =
      if d.params = none then some (1, 0)
      else if d.gauges.all (fun g => g.enabledByte == 0) then some (2, 0)
      else match firstBad (probesExist d) d.gauges, firstBad (axesMatch d) d.gauges, firstBad probeBOk d.gauges,
          firstBad (probeAxisOk quad) d.probes with
        | some k, _, _, _ => some (3, k)
        | none, some k, _, _ => some (4, k)
        | none, none, some k, _ => some (5, k)
        | none, none, none, some k => some (6, k)
        | none, none, none, none => none := by
  unfold sealFault
  rw [GaugeRec.none_enabled_iff]
  simp only [Option.isNone_iff_eq_none]
  split
  · rfl
  · split
    · rfl
    · cases firstBad (probesExist d) d.gauges <;> cases firstBad (axesMatch d) d.gauges <;>
        cases firstBad probeBOk d.gauges <;> cases firstBad (probeAxisOk quad) d.probes <;> rfl

theorem State.sealSlot_refused (s : State) {i : Fin 8} {c k : Nat} (hload : (s.dieSlot i).state = .loading)
    (hf : sealFault s.lt.geom.quad (s.dieSlot i) = some (c, k)) :
    s.sealSlot i = ⟨s, .sealCheck, k, .checkFailed c k⟩ := by
  simp only [State.sealSlot, hload, hf]

theorem State.sealSlot_sealed (s : State) {i : Fin 8} (hload : (s.dieSlot i).state = .loading)
    (hf : sealFault s.lt.geom.quad (s.dieSlot i) = none) :
    let digest := (s.dieSlot i).computeDigest
    s.sealSlot i =
      ⟨s.putSlot i { s.dieSlot i with state := .sealed, digest := some digest }, .ok, 0, .sealed digest⟩ := by
  simp only [State.sealSlot, hload, hf, State.taken]

/-- Settles O49: each of the six checks is the obligation's, and a slot that passes them is sealed with its digest. -/
theorem slotSealed : Obligations.SlotSealed := by
  intro tag i s hs d p uses span wants even gives missing wrongAxis wrongB wrongPose failed
  have hmissing : firstBad (probesExist d) d.gauges = missing := by
    simp only [firstBad, missing, probesExist, uses, GaugeRec.refs, List.not_all_eq_any_not, ← decide_not, Nat.not_lt]
  have hwrongAxis : firstBad (axesMatch d) d.gauges = wrongAxis := by
    have hprobe (o : Option ProbeRec) (a : Axis) : (!o.all fun r => r.axis == a) = o.any fun r => r.axis != a := by
      cases o <;> rfl
    simp only [firstBad, wrongAxis, axesMatch, uses, wants, GaugeRec.refs, List.not_all_eq_any_not, hprobe,
      GaugeKind.axis_eq]
  have hwrongB : firstBad probeBOk d.gauges = wrongB := by
    simp only [firstBad, wrongB, probeBOk, span, GaugeKind.isSpan_eq]
    rfl
  have hwrongPose : firstBad (probeAxisOk s.lt.geom.quad) d.probes = wrongPose := by
    simp only [firstBad, wrongPose, probeAxisOk, gives, even, axisGiven_eq]
    rfl
  have hfailed : sealFault s.lt.geom.quad d = failed := by
    have h := sealFault_eq s.lt.geom.quad d
    rw [hmissing, hwrongAxis, hwrongB, hwrongPose] at h
    exact h
  have hrun {a : Answer} (h : s.sealSlot i = a) :
      exec (.sealSlot tag p) s = .next (s.replyTo .sealSlot tag p a) :=
    exec_answered (c := .sealSlot) hs rfl ((s.onSlot_slot i [] _).trans h)
  refine ⟨fun hstate => hrun ?_, fun hstate => hrun ?_, fun c k hstate hf => hrun ?_, fun par hstate hf hpar => ?_⟩
  · simp only [State.sealSlot, show (s.dieSlot i).state = .empty from hstate, State.refuse]
  · simp only [State.sealSlot, show (s.dieSlot i).state = .sealed from hstate, State.taken]
  · exact s.sealSlot_refused hstate (hfailed.trans hf)
  · have hrecord : d.record = par := by rw [DieSlot.record, hpar, Option.getD_some]
    intro digest
    have hdigest : d.computeDigest = digest := by rw [DieSlot.computeDigest, hrecord]
    have hseal := s.sealSlot_sealed hstate (hfailed.trans hf)
    rw [← hdigest]
    exact hrun hseal

end Sys2Proof.Machine
end

section
/-! What the work along the profile and the retirement of sections keep of the settled coordinate, of the alert flags
and of the trigger frames on the head links (R40, R59, R104, R146). -/

namespace Sys2Proof.Machine

/-! ### Alert flags -/

/-- No alert flag of `s` is clear in `t`. -/
def FlagsGrow (s t : State) : Prop := ∀ f, FlagSet.has s.au.flags f = true → FlagSet.has t.au.flags f = true

theorem FlagsGrow.of_flags {s t : State} (h : t.au.flags = s.au.flags) : FlagsGrow s t := fun _ hf => h ▸ hf

theorem FlagsGrow.refl (s : State) : FlagsGrow s s := .of_flags rfl

theorem FlagsGrow.trans {s t u : State} (h : FlagsGrow s t) (k : FlagsGrow t u) : FlagsGrow s u :=
  fun f hf => k f (h f hf)

theorem FlagSet.has_or (a b : FlagSet) (f : AlertFlag) :
    FlagSet.has (a ||| b) f = (FlagSet.has a f || FlagSet.has b f) := BitVec.getLsbD_or

theorem AlertFlag.has_bit (f : AlertFlag) : FlagSet.has f.bit f = true := by cases f <;> rfl

theorem State.raise_flagsGrow (s : State) (f : AlertFlag) : FlagsGrow s (s.raise f) := by
  intro g hg
  simp only [State.raise, AlertUnit.rise]
  split
  · exact hg
  · simp [FlagSet.has_or, hg]

/-- A raised flag is set (R146). -/
theorem State.raise_has (s : State) (f : AlertFlag) : FlagSet.has (s.raise f).au.flags f = true := by
  simp only [State.raise, AlertUnit.rise]
  split
  · assumption
  · simp [FlagSet.has_or, AlertFlag.has_bit]

/-! ### The work at one coordinate -/

/-- The settled coordinate stays, and no alert flag is cleared. -/
structure ProfileKept (s t : State) : Prop where
  settled : t.pt.settled = s.pt.settled
  flags : FlagsGrow s t

theorem ProfileKept.of_au {s t : State} (h : t.pt.settled = s.pt.settled) (k : t.au.flags = s.au.flags) :
    ProfileKept s t := ⟨h, .of_flags k⟩

theorem ProfileKept.refl (s : State) : ProfileKept s s := .of_au rfl rfl

theorem ProfileKept.trans {s t u : State} (h : ProfileKept s t) (k : ProfileKept t u) : ProfileKept s u :=
  ⟨k.settled.trans h.settled, h.flags.trans k.flags⟩

/-- What comes behind a change that leaves the settled coordinate and the alert flags. -/
theorem ProfileKept.after {s u t : State} (k : ProfileKept u t) (h : u.pt.settled = s.pt.settled)
    (hf : u.au.flags = s.au.flags) : ProfileKept s t := (ProfileKept.of_au h hf).trans k

theorem ProfileKept.foldl {α : Type} (f : State → α → State) (hf : ∀ s a, ProfileKept s (f s a)) (l : List α)
    (s : State) : ProfileKept s (l.foldl f s) :=
  List.foldlRecOn l f (.refl s) fun t ht a _ => ht.trans (hf t a)

theorem State.raise_profileKept (s : State) (f : AlertFlag) : ProfileKept s (s.raise f) :=
  ⟨rfl, s.raise_flagsGrow f⟩

theorem State.mapPiece_profileKept (s : State) (f : Piece → Piece) : ProfileKept s (s.mapPiece f) := .of_au rfl rfl

theorem State.dropOldest_profileKept (s : State) : ProfileKept s s.dropOldest := by
  unfold State.dropOldest
  split
  · exact .refl s
  · exact (State.raise_profileKept _ _).after rfl rfl

theorem State.appendReport_profileKept (s : State) (r : Report) : ProfileKept s (s.appendReport r) := by
  unfold State.appendReport
  dsimp only
  split
  · exact (State.raise_profileKept _ _).after rfl rfl
  · exact s.dropOldest_profileKept.trans ((State.raise_profileKept _ _).after rfl rfl)

theorem State.noteClose_profileKept (s : State) : ProfileKept s s.noteClose := by
  unfold State.noteClose
  split
  · exact (State.raise_profileKept _ _).after rfl rfl
  · exact .refl s

theorem State.openPiece_profileKept (s : State) (p : Nat) (continued : Bool) :
    ProfileKept s (s.openPiece p continued) := by
  unfold State.openPiece
  dsimp only
  split
  · exact s.dropOldest_profileKept.trans (.of_au rfl rfl)
  · exact .of_au rfl rfl

theorem State.closePiece_profileKept (s : State) (r : CloseReason) (e : Nat) : ProfileKept s (s.closePiece r e) := by
  unfold State.closePiece
  split
  · exact .refl s
  · dsimp only
    split
    · exact (State.appendReport_profileKept _ _).after rfl rfl
    · exact ((State.appendReport_profileKept _ _).trans (State.noteClose_profileKept _)).after rfl rfl

theorem State.applyBoundary_profileKept (s : State) (e : Nat) : ProfileKept s (s.applyBoundary e) := by
  unfold State.applyBoundary
  split
  · exact .refl s
  · split
    · dsimp only
      split
      · exact s.noteClose_profileKept.trans (.of_au rfl rfl)
      · refine s.noteClose_profileKept.trans ?_
        split
        · exact .of_au rfl rfl
        · exact (State.raise_profileKept _ _).trans (.of_au rfl rfl)
    · exact (s.closePiece_profileKept _ _).trans (State.openPiece_profileKept _ _ _)

theorem State.applyZone_profileKept (s : State) (y : Nat) (m : Mark) : ProfileKept s (s.applyZone y m) := .of_au rfl rfl

theorem State.applyCut_profileKept (s : State) (x : Nat) (est : Bool) : ProfileKept s (s.applyCut x est) := by
  have h (u : State) : ProfileKept u ((u.closePiece .cut x).openPiece x false) :=
    (u.closePiece_profileKept _ _).trans (State.openPiece_profileKept _ _ _)
  cases est
  · exact h s
  · refine ProfileKept.trans ?_ (State.mapPiece_profileKept _ _)
    exact (s.mapPiece_profileKept _).trans (h _)

theorem State.boundaryAt_profileKept (s : State) (y : Nat) : ProfileKept s (s.boundaryAt y) := by
  unfold State.boundaryAt
  split
  · exact .refl s
  · split
    · exact s.applyBoundary_profileKept y
    · exact .refl s

theorem State.applyAt_profileKept (s : State) (y : Nat) : ProfileKept s (s.applyAt y) := by
  unfold State.applyAt
  refine ProfileKept.trans ?_ (ProfileKept.foldl _ (fun s m => s.applyZone_profileKept y m) _ _)
  refine ProfileKept.trans ?_ (State.boundaryAt_profileKept _ _)
  exact (ProfileKept.foldl _ (fun s (m : Mark) => s.applyCut_profileKept y m.est) _ _).after rfl rfl

theorem State.walk_profileKept : ∀ (n : Nat) (s : State) (y limit : Nat), ProfileKept s (State.walk n s y limit)
  | 0, s, _, _ => .refl s
  | n + 1, s, y, limit => by
    unfold State.walk
    split
    · exact .refl s
    · exact (s.applyAt_profileKept _).trans (State.walk_profileKept n _ _ _)

theorem State.offerMatch_profileKept (s : State) (a b : Nat) : ProfileKept s (s.offerMatch a b) := by
  unfold State.offerMatch
  split
  · exact .refl s
  · split
    · exact (State.raise_profileKept _ _).after rfl rfl
    · exact .refl s

theorem State.lateZone_profileKept (s : State) (m : Mark) : ProfileKept s (s.lateZone m) :=
  ((State.raise_profileKept _ _).trans (State.applyZone_profileKept _ _ _)).after rfl rfl

theorem State.lateCut_profileKept (s : State) (x : Nat) (est : Bool) : ProfileKept s (s.lateCut x est) := by
  unfold State.lateCut
  dsimp only
  refine ProfileKept.trans ?_ (State.walk_profileKept _ _ _ _)
  refine ProfileKept.trans ?_ (State.applyCut_profileKept _ _ _)
  exact ((State.raise_profileKept _ .markLate).after rfl rfl).trans (.of_au rfl rfl)

theorem State.deliverMark_profileKept (s : State) (m : Mark) : ProfileKept s (s.deliverMark m).1 := by
  unfold State.deliverMark State.handLate
  split
  · split
    · split
      · split
        · exact s.lateCut_profileKept _ _
        · exact .refl s
      · exact .refl s
    · exact s.lateZone_profileKept m
  · split
    · exact .refl s
    · split
      · exact s.raise_profileKept _
      · exact .of_au rfl rfl

theorem State.countBurst_profileKept (s : State) (r : SecResult) : ProfileKept s (s.countBurst r) := by
  unfold State.countBurst
  split
  · exact .of_au rfl rfl
  · split
    · exact .refl s
    · split
      · exact .refl s
      · split
        · dsimp only
          split
          · exact (State.raise_profileKept _ _).after rfl rfl
          · exact .of_au rfl rfl
        · exact .of_au rfl rfl

/-! ### Advances of the settled coordinate -/

/-- With an open piece an advance to a coordinate above the settled one settles there (R104). -/
theorem State.advanceTo_settled (s : State) (c : Nat) :
    (s.advanceTo c).pt.settled = if s.pt.piece.isSome ∧ s.pt.settled < c then c else s.pt.settled := by
  unfold State.advanceTo
  split
  · exact (State.offerMatch_profileKept _ _ _).settled
  · rfl

theorem State.advanceTo_flagsGrow (s : State) (c : Nat) : FlagsGrow s (s.advanceTo c) := by
  unfold State.advanceTo
  split
  · refine FlagsGrow.trans ?_ (State.offerMatch_profileKept _ _ _).flags
    exact (State.walk_profileKept (c - s.pt.settled) s s.pt.settled c).flags.trans (.of_flags rfl)
  · exact .refl s

/-- The target of an advance does not exceed the coordinate last presented (R104). -/
theorem State.target_le (s : State) : s.target ≤ s.pt.presented := by
  unfold State.target
  dsimp only
  split <;> split <;> omega

theorem State.present_frame (s : State) (c : Nat) : PieceFrame (s.setPt { s.pt with presented := c }) (s.present c) :=
  State.advance_frame _

/-! ### The retirement of sections -/

/-- No alert flag is cleared, and no trigger frame is sent. -/
structure RetireKept (s t : State) : Prop where
  flags : FlagsGrow s t
  trigOut : ∀ h, (t.head h).trigOut = (s.head h).trigOut

theorem RetireKept.of_hl {s t : State} (h : t.au.flags = s.au.flags) (k : t.hl = s.hl) : RetireKept s t :=
  ⟨.of_flags h, fun h => by rw [State.head, State.head, k]⟩

theorem RetireKept.refl (s : State) : RetireKept s s := .of_hl rfl rfl

theorem RetireKept.trans {s t u : State} (h : RetireKept s t) (k : RetireKept t u) : RetireKept s u :=
  ⟨h.flags.trans k.flags, fun x => (k.trigOut x).trans (h.trigOut x)⟩

/-- What comes behind a change that leaves the heads and the alert flags. -/
theorem RetireKept.after {s u t : State} (k : RetireKept u t) (h : u.au.flags = s.au.flags) (hl : u.hl = s.hl) :
    RetireKept s t := (RetireKept.of_hl h hl).trans k

theorem State.raise_retireKept (s : State) (f : AlertFlag) : RetireKept s (s.raise f) :=
  ⟨s.raise_flagsGrow f, fun _ => rfl⟩

theorem State.advance_retireKept (s : State) : RetireKept s s.advance :=
  ⟨s.advanceTo_flagsGrow _, fun h => by rw [State.head, State.head, s.advance_frame.hl]⟩

theorem State.sectionTemperature_retireKept (s : State) (p : PendSlot) (c : HeadSet) :
    RetireKept s (s.sectionTemperature p c).2.2 := by
  unfold State.sectionTemperature
  split
  · dsimp only
    split
    · exact (State.raise_retireKept _ _).after rfl rfl
    · exact .of_hl rfl rfl
  · exact .of_hl rfl rfl

theorem Head.afterRetire_trigOut (m : Nat) (x : Head) (b : Bool) : (x.afterRetire m b).trigOut = x.trigOut := by
  unfold Head.afterRetire
  split
  · split
    · rfl
    · split <;> rfl
  · split <;> rfl
  · rfl

theorem State.countMisses_retireKept (s : State) (p : PendSlot) : RetireKept s (s.countMisses p) := by
  have hheads : RetireKept s (s.setHl { s.hl with
      heads := perHead fun h => Head.afterRetire s.hl.lostM (s.head h) (p.frames.get h).isSome }) :=
    ⟨.of_flags rfl, fun h => by simp [State.head, Head.afterRetire_trigOut]⟩
  unfold State.countMisses
  dsimp only
  split
  · exact hheads.trans (State.raise_retireKept _ _)
  · exact hheads

theorem State.retire_retireKept (s : State) (p : PendSlot) (c : HeadSet) : RetireKept s (s.retire p c) := by
  unfold State.retire
  have h := s.sectionTemperature_retireKept p c
  generalize s.sectionTemperature p c = r at h
  obtain ⟨temp, held, u⟩ := r
  refine RetireKept.trans ?_ (State.advance_retireKept _)
  have hcount := (State.countMisses_retireKept (u.hand p c temp held) p).after (s := u) rfl rfl
  exact (h.trans hcount).trans (.of_hl rfl rfl)

theorem State.retireUpTo_retireKept : ∀ (n : Nat) (s : State), RetireKept s (State.retireUpTo n s)
  | 0, s => .refl s
  | n + 1, s => by
    unfold State.retireUpTo
    split
    · split
      · exact (s.retire_retireKept _ _).trans (State.retireUpTo_retireKept n _)
      · exact .refl s
    · exact .refl s

theorem State.cascade_retireKept (s : State) : RetireKept s s.cascade := State.retireUpTo_retireKept _ _

end Sys2Proof.Machine
end

section
/-! The coordinates on their way (R27, R28, R55, R104) and the coordinate history (R31): what each operation on
sections, marks and links keeps of them. -/

namespace Sys2Proof.Machine

/-! ### Coordinates below a bound -/

/-- No coordinate that the Piece Tracker holds or that a section carries on its way to it lies above `c`. -/
structure State.CoordsBelow (s : State) (c : Nat) : Prop where
  presented : s.pt.presented ≤ c
  settled : s.pt.settled ≤ c
  pend : ∀ x ∈ s.sa.pend.map PendSlot.coord, x ≤ c
  awaited : ∀ x ∈ s.pt.awaited, x ≤ c
  handed : ∀ h ∈ s.ge.handed, h.coord ≤ c
  results : ∀ r ∈ s.pt.results, r.coord ≤ c

theorem State.coordSound_iff (s : State) : s.CoordSound ↔
    s.sa.pend.length ≤ 4 ∧ s.lt.acc ≤ maxAcc ∧ s.lt.debt ≤ 65535 ∧ s.pt.presented = s.lt.live ∧
      s.CoordsBelow s.lt.live := by
  constructor
  · rintro ⟨hlen, hacc, hdebt, hpres, hset, hpend, haw, hhand, hres⟩
    exact ⟨hlen, hacc, hdebt, hpres, hpres.le, hset, by simpa using hpend, haw, hhand, hres⟩
  · rintro ⟨hlen, hacc, hdebt, hpres, -, hset, hpend, haw, hhand, hres⟩
    exact ⟨hlen, hacc, hdebt, hpres, hset, by simpa using hpend, haw, hhand, hres⟩

/-- Work along the profile that settles at or below the bound stays below it. -/
theorem PieceFrame.coordsBelow {s t : State} {c : Nat} (h : PieceFrame s t) (hset : t.pt.settled ≤ c)
    (hs : s.CoordsBelow c) : t.CoordsBelow c where
  presented := h.presented ▸ hs.presented
  settled := hset
  pend := h.sa ▸ hs.pend
  awaited := h.awaited ▸ hs.awaited
  handed := h.ge ▸ hs.handed
  results := h.results ▸ hs.results

theorem State.advanceTo_coordsBelow {s : State} {c x : Nat} (hs : s.CoordsBelow c) (hx : x ≤ c) :
    (s.advanceTo x).CoordsBelow c := by
  refine (s.advanceTo_frame x).coordsBelow ?_ hs
  rw [s.advanceTo_settled]
  split
  · exact hx
  · exact hs.settled

theorem State.advance_coordsBelow {s : State} {c : Nat} (hs : s.CoordsBelow c) : s.advance.CoordsBelow c :=
  State.advanceTo_coordsBelow hs (s.target_le.trans hs.presented)

/-! ### What keeps the coordinates -/

/-- The count, the history and the coordinate presented are those of `s`, no section is triggered, and no coordinate
rises above a bound of those of `s`. -/
structure CoordFrame (s t : State) : Prop where
  acc : t.lt.acc = s.lt.acc
  debt : t.lt.debt = s.lt.debt
  history : t.lt.history = s.lt.history
  presented : t.pt.presented = s.pt.presented
  pend : t.sa.pend.length ≤ s.sa.pend.length
  below : ∀ {c}, s.CoordsBelow c → t.CoordsBelow c

theorem CoordFrame.trans {s t u : State} (h : CoordFrame s t) (k : CoordFrame t u) : CoordFrame s u where
  acc := k.acc.trans h.acc
  debt := k.debt.trans h.debt
  history := k.history.trans h.history
  presented := k.presented.trans h.presented
  pend := k.pend.trans h.pend
  below hs := k.below (h.below hs)

/-- Changes beside the coordinates. -/
theorem CoordFrame.of_fields {s t : State} (hacc : t.lt.acc = s.lt.acc) (hdebt : t.lt.debt = s.lt.debt)
    (hhist : t.lt.history = s.lt.history) (hsa : t.sa = s.sa) (hhand : t.ge.handed = s.ge.handed)
    (hpres : t.pt.presented = s.pt.presented) (hset : t.pt.settled = s.pt.settled)
    (haw : t.pt.awaited = s.pt.awaited) (hres : t.pt.results = s.pt.results) : CoordFrame s t where
  acc := hacc
  debt := hdebt
  history := hhist
  presented := hpres
  pend := by rw [hsa]
  below hs := ⟨hpres ▸ hs.presented, hset ▸ hs.settled, hsa ▸ hs.pend, haw ▸ hs.awaited, hhand ▸ hs.handed,
    hres ▸ hs.results⟩

/-- Changes of other blocks. -/
theorem CoordFrame.of_blocks {s t : State} (hlt : t.lt = s.lt) (hsa : t.sa = s.sa) (hge : t.ge = s.ge)
    (hpt : t.pt = s.pt) : CoordFrame s t :=
  .of_fields (by rw [hlt]) (by rw [hlt]) (by rw [hlt]) hsa (by rw [hge]) (by rw [hpt]) (by rw [hpt]) (by rw [hpt])
    (by rw [hpt])

theorem CoordFrame.refl (s : State) : CoordFrame s s := .of_blocks rfl rfl rfl rfl

/-- What comes behind a change of other blocks. -/
theorem CoordFrame.after {s u t : State} (k : CoordFrame u t) (hlt : u.lt = s.lt) (hsa : u.sa = s.sa)
    (hge : u.ge = s.ge) (hpt : u.pt = s.pt) : CoordFrame s t :=
  (CoordFrame.of_blocks hlt hsa hge hpt).trans k

theorem CoordFrame.foldl {α : Type} (f : State → α → State) (hf : ∀ s a, CoordFrame s (f s a)) (l : List α)
    (s : State) : CoordFrame s (l.foldl f s) :=
  List.foldlRecOn l f (.refl s) fun t ht a _ => ht.trans (hf t a)

theorem PieceFrame.coordFrame {s t : State} (h : PieceFrame s t)
    (hbelow : ∀ {c}, s.CoordsBelow c → t.pt.settled ≤ c) : CoordFrame s t where
  acc := by rw [h.lt]
  debt := by rw [h.lt]
  history := by rw [h.lt]
  presented := h.presented
  pend := by rw [h.sa]
  below hs := h.coordsBelow (hbelow hs) hs

/-- Work along the profile that leaves the settled coordinate. -/
theorem ProfileKept.coordFrame {s t : State} (k : ProfileKept s t) (h : PieceFrame s t) : CoordFrame s t :=
  h.coordFrame fun hs => k.settled ▸ hs.settled

theorem State.raise_coordFrame (s : State) (f : AlertFlag) : CoordFrame s (s.raise f) :=
  .of_blocks rfl rfl rfl rfl

theorem State.advance_coordFrame (s : State) : CoordFrame s s.advance :=
  s.advance_frame.coordFrame fun hs => (State.advance_coordsBelow hs).settled

/-- The Section Assembler with slots of no other coordinates. -/
theorem State.setSa_coordFrame (s : State) {a : Assembler}
    (h : (a.pend.map PendSlot.coord).Sublist (s.sa.pend.map PendSlot.coord)) : CoordFrame s (s.setSa a) where
  acc := rfl
  debt := rfl
  history := rfl
  presented := rfl
  pend := by simpa using h.length_le
  below hs := ⟨hs.presented, hs.settled, fun x hx => hs.pend x (h.subset hx), hs.awaited, hs.handed, hs.results⟩

/-! ### Sections -/

theorem State.testSlot_coord (s : State) (p : PendSlot) : (s.testSlot p).coord = p.coord := by
  unfold State.testSlot
  split <;> rfl

theorem State.testSlots_coordFrame (s : State) : CoordFrame s s.testSlots := by
  refine s.setSa_coordFrame ?_
  simp only [List.map_map, Function.comp_def, State.testSlot_coord, List.Sublist.refl]

theorem State.sectionTemperature_pend (s : State) (p : PendSlot) (c : HeadSet) :
    (s.sectionTemperature p c).2.2.sa.pend = s.sa.pend := by
  unfold State.sectionTemperature
  split
  · dsimp only
    split <;> rfl
  · rfl

theorem State.sectionTemperature_coordFrame (s : State) (p : PendSlot) (c : HeadSet) :
    CoordFrame s (s.sectionTemperature p c).2.2 := by
  unfold State.sectionTemperature
  split
  · dsimp only
    split
    · refine CoordFrame.trans ?_ (State.raise_coordFrame _ _)
      exact s.setSa_coordFrame (.refl _)
    · exact s.setSa_coordFrame (.refl _)
  · exact s.setSa_coordFrame (.refl _)

/-- The coordinate of a slot that is handed becomes one of an awaited and of a handed section. -/
theorem State.hand_coordFrame (s : State) {p : PendSlot} (hp : p ∈ s.sa.pend) (c : HeadSet) (t : Nat) (h : Bool) :
    CoordFrame s (s.hand p c t h) where
  acc := rfl
  debt := rfl
  history := rfl
  presented := rfl
  pend := le_rfl
  below hs := by
    have hcoord := hs.pend p.coord (List.mem_map_of_mem hp)
    refine ⟨hs.presented, hs.settled, hs.pend, fun x hx => ?_, fun x hx => ?_, hs.results⟩
    · rcases List.mem_append.1 hx with hx | hx
      · exact hs.awaited x hx
      · exact List.mem_singleton.1 hx ▸ hcoord
    · rcases List.mem_append.1 hx with hx | hx
      · exact hs.handed x hx
      · exact List.mem_singleton.1 hx ▸ hcoord

theorem State.countMisses_coordFrame (s : State) (p : PendSlot) : CoordFrame s (s.countMisses p) := by
  unfold State.countMisses
  dsimp only
  split
  · exact (State.raise_coordFrame _ _).after rfl rfl rfl rfl
  · exact .of_blocks rfl rfl rfl rfl

theorem State.retire_coordFrame (s : State) {p : PendSlot} (hp : p ∈ s.sa.pend) (c : HeadSet) :
    CoordFrame s (s.retire p c) := by
  unfold State.retire
  have h := s.sectionTemperature_coordFrame p c
  rw [← s.sectionTemperature_pend p c] at hp
  generalize s.sectionTemperature p c = r at h hp
  obtain ⟨temp, held, u⟩ := r
  refine CoordFrame.trans ?_ (State.advance_coordFrame _)
  refine CoordFrame.trans ?_ (State.setSa_coordFrame _ ((List.drop_sublist 1 _).map _))
  refine CoordFrame.trans ?_ (State.testSlots_coordFrame _)
  refine CoordFrame.trans ?_ (State.countMisses_coordFrame _ _)
  exact h.trans (u.hand_coordFrame hp _ _ _)

theorem State.retireUpTo_coordFrame : ∀ (n : Nat) (s : State), CoordFrame s (State.retireUpTo n s)
  | 0, s => .refl s
  | n + 1, s => by
    unfold State.retireUpTo
    split
    · split
      · rename_i hpend _ _ _
        exact (s.retire_coordFrame (hpend ▸ List.mem_cons_self) _).trans (State.retireUpTo_coordFrame n _)
      · exact .refl s
    · exact .refl s

theorem State.cascade_coordFrame (s : State) : CoordFrame s s.cascade := State.retireUpTo_coordFrame _ _

theorem State.settleSections_coordFrame (s : State) : CoordFrame s s.settleSections :=
  s.testSlots_coordFrame.trans (State.cascade_coordFrame _)

theorem State.expireSlot_coordFrame (s : State) (n : Seq) : CoordFrame s (s.expireSlot n) := by
  have hcoord (p : PendSlot) : (if p.seq == n && p.contrib.isNone then s.complete p else p).coord = p.coord := by
    split <;> rfl
  refine CoordFrame.trans (State.setSa_coordFrame s ?_) (State.cascade_coordFrame _)
  simp only [List.map_map, Function.comp_def, hcoord, List.Sublist.refl]

theorem State.evaluateNext_coordFrame (s : State) : CoordFrame s s.evaluateNext := by
  unfold State.evaluateNext
  split
  · rename_i sec rest c hhand _
    refine ⟨rfl, rfl, rfl, rfl, le_rfl, fun hs => ?_⟩
    have hsec : sec ∈ s.ge.handed := hhand ▸ List.mem_cons_self
    refine ⟨hs.presented, hs.settled, hs.pend, hs.awaited, fun x hx => ?_, fun x hx => ?_⟩
    · exact hs.handed x (hhand ▸ List.mem_cons_of_mem _ hx)
    · rcases List.mem_append.1 hx with hx | hx
      · exact hs.results x hx
      · exact List.mem_singleton.1 hx ▸ hs.handed sec hsec
  · exact .refl s

theorem State.offerTrace_blocks (s : State) (r : SecResult) :
    (s.offerTrace r).lt = s.lt ∧ (s.offerTrace r).sa = s.sa ∧ (s.offerTrace r).ge = s.ge ∧
    (s.offerTrace r).pt = s.pt := by
  unfold State.offerTrace
  split
  · exact ⟨rfl, rfl, rfl, rfl⟩
  · split <;> exact ⟨rfl, rfl, rfl, rfl⟩

/-- The counting of a section behind the advance to it (R106 steps 2 to 6), up to the next advance. -/
theorem State.applyResult_coordFrame (s : State) (r : SecResult) :
    CoordFrame (s.advanceTo r.coord) (s.applyResult r) := by
  have hmap (u : State) (f : Piece → Piece) : CoordFrame u (u.mapPiece f) :=
    (u.mapPiece_profileKept f).coordFrame (u.mapPiece_frame f)
  have hdrop (u : State) : CoordFrame u (u.setPt { u.pt with awaited := u.pt.awaited.drop 1 }) :=
    ⟨rfl, rfl, rfl, rfl, le_rfl, fun hs =>
      ⟨hs.presented, hs.settled, hs.pend, fun x hx => hs.awaited x (List.mem_of_mem_drop hx), hs.handed, hs.results⟩⟩
  have htrace (u : State) : CoordFrame u (u.offerTrace r) := by
    obtain ⟨hlt, hsa, hge, hpt⟩ := u.offerTrace_blocks r
    exact .of_blocks hlt hsa hge hpt
  unfold State.applyResult
  refine CoordFrame.trans ?_ (State.advance_coordFrame _)
  refine CoordFrame.trans ?_ (hdrop _)
  refine CoordFrame.trans ?_ (htrace _)
  refine CoordFrame.trans ?_ ((State.countBurst_profileKept _ _).coordFrame (State.countBurst_frame _ _))
  refine CoordFrame.trans (hmap _ fun p => { p with cur := countSection r p.cur }) ?_
  split
  · exact hmap _ _
  · exact .refl _

theorem State.applySection_coordFrame (s : State) : CoordFrame s s.applySection := by
  unfold State.applySection
  split
  · exact .refl s
  · rename_i r rest hres
    refine CoordFrame.trans ?_ (State.applyResult_coordFrame _ r)
    have hframe := (s.setPt { s.pt with results := rest }).advanceTo_frame r.coord
    refine ⟨by rw [hframe.lt]; rfl, by rw [hframe.lt]; rfl, by rw [hframe.lt]; rfl, hframe.presented,
      by rw [hframe.sa]; rfl, fun hs => ?_⟩
    refine State.advanceTo_coordsBelow ⟨hs.presented, hs.settled, hs.pend, hs.awaited, hs.handed, fun x hx => ?_⟩ ?_
    · exact hs.results x (hres ▸ List.mem_cons_of_mem _ hx)
    · exact hs.results r (hres ▸ List.mem_cons_self)

theorem State.compilationDone_coordFrame (s : State) : CoordFrame s s.compilationDone := by
  unfold State.compilationDone
  split
  · refine CoordFrame.trans ?_ (State.raise_coordFrame _ _)
    refine CoordFrame.trans ?_ (State.advance_coordFrame _)
    refine CoordFrame.trans ?_ ((State.openPiece_profileKept _ _ _).coordFrame (State.openPiece_frame _ _ _))
    exact .of_fields rfl rfl rfl rfl rfl rfl rfl rfl rfl
  · exact .refl s

/-! ### Links -/

theorem placeFrame_coords (h : Fin 4) (n : Seq) (f : SecFrame) :
    ∀ l : List PendSlot, (placeFrame h n f l).map PendSlot.coord = l.map PendSlot.coord
  | [] => rfl
  | p :: rest => by
    unfold placeFrame
    split
    · split <;> rfl
    · rw [List.map_cons, placeFrame_coords h n f rest]
      split <;> rfl

theorem State.goodFrame_coordFrame (s : State) (h : Fin 4) (g : GoodFrame) : CoordFrame s (s.goodFrame h g) := by
  refine CoordFrame.trans ?_ (State.settleSections_coordFrame _)
  refine CoordFrame.after (State.setSa_coordFrame (s.putHead h _) ?_) rfl rfl rfl rfl
  rw [placeFrame_coords]

theorem State.headDown_coordFrame (s : State) (h : Fin 4) (f : HeadFault) (lock : Bool) :
    CoordFrame s (s.headDown h f lock) := by
  unfold State.headDown
  dsimp only
  split
  · exact (State.settleSections_coordFrame _).after rfl rfl rfl rfl
  · exact .of_blocks rfl rfl rfl rfl

theorem State.headFinds_coordFrame (h : Fin 4) (s : State) (e : LinkEvent) : CoordFrame s (State.headFinds h s e) := by
  cases e with
  | symbolError => exact s.headDown_coordFrame h _ _
  | frame bs =>
    simp only [State.headFinds, State.sectionFrame]
    split
    · exact .of_blocks rfl rfl rfl rfl
    · exact s.goodFrame_coordFrame h _

theorem State.headHears_coordFrame (s : State) (h : Fin 4) (inFrame ended : Bool) (run : List Symbol) :
    CoordFrame s (s.headHears h inFrame ended run) := by
  unfold State.headHears
  dsimp only
  split
  · exact (CoordFrame.foldl _ (State.headFinds_coordFrame h) _ _).after rfl rfl rfl rfl
  · exact .refl s

theorem State.headLockLoss_coordFrame (s : State) (h : Fin 4) : CoordFrame s (s.headLockLoss h) := by
  unfold State.headLockLoss
  split
  · exact s.headDown_coordFrame h _ _
  · exact .refl s

theorem State.headLockGain_coordFrame (s : State) (h : Fin 4) : CoordFrame s (s.headLockGain h) := by
  unfold State.headLockGain
  split <;> exact .of_blocks rfl rfl rfl rfl

theorem State.goodCommand_coordFrame (s : State) (code tag : Byte) (p : List Byte) :
    CoordFrame s (s.goodCommand code tag p) := by
  unfold State.goodCommand
  split <;> exact .of_blocks rfl rfl rfl rfl

theorem State.lineFinds_coordFrame (s : State) (e : LinkEvent) : CoordFrame s (s.lineFinds e) := by
  cases e with
  | symbolError => exact .of_blocks rfl rfl rfl rfl
  | frame bs =>
    simp only [State.lineFinds, State.lineFrame]
    split
    · exact .of_blocks rfl rfl rfl rfl
    · exact s.goodCommand_coordFrame _ _ _

theorem State.lineHears_coordFrame (s : State) (inFrame ended : Bool) (run : List Symbol) :
    CoordFrame s (s.lineHears inFrame ended run) := by
  unfold State.lineHears
  dsimp only
  split
  · exact (CoordFrame.foldl _ State.lineFinds_coordFrame _ _).after rfl rfl rfl rfl
  · exact .refl s

theorem State.lineLockLoss_coordFrame (s : State) (inFrame : Bool) : CoordFrame s (s.lineLockLoss inFrame) := by
  unfold State.lineLockLoss
  split
  · dsimp only
    split <;> exact .of_blocks rfl rfl rfl rfl
  · exact .refl s

theorem State.transmit_coordFrame (s : State) : CoordFrame s s.transmit :=
  .of_blocks s.transmit_lt s.transmit_sa s.transmit_ge s.transmit_pt

end Sys2Proof.Machine
end

section
/-! The law of the coordinates (R27, R28, R55, R104) and of their history (R31), kept by wheel counts and by what the
time base brings. -/

namespace Sys2Proof.Machine

/-! ### The two laws -/

/-- What holds in `t` of the two laws when they hold in `s`. -/
structure LawsKept (s t : State) : Prop where
  coord : s.CoordSound → t.CoordSound
  history : s.CoordSound → s.HistorySound → t.HistorySound

theorem LawsKept.refl (s : State) : LawsKept s s := ⟨id, fun _ => id⟩

theorem LawsKept.trans {s t u : State} (h : LawsKept s t) (k : LawsKept t u) : LawsKept s u :=
  ⟨fun hs => k.coord (h.coord hs), fun hs hh => k.history (h.coord hs) (h.history hs hh)⟩

/-- A history that stays is sound below a live coordinate that does not fall (R28, R31). -/
theorem State.HistorySound.mono {s t : State} (hs : s.HistorySound) (hhist : t.lt.history = s.lt.history)
    (hlive : s.lt.live ≤ t.lt.live) : t.HistorySound := by
  obtain ⟨hlen, hbound, hsorted⟩ := hs
  exact ⟨by rw [hhist, hlen], fun c hc => (hbound c (hhist ▸ hc)).trans hlive, by rw [hhist]; exact hsorted⟩

theorem CoordFrame.live {s t : State} (h : CoordFrame s t) : t.lt.live = s.lt.live := by
  rw [LengthTracker.live, LengthTracker.live, h.acc]

theorem CoordFrame.lawsKept {s t : State} (h : CoordFrame s t) : LawsKept s t where
  coord hs := by
    rw [State.coordSound_iff] at hs ⊢
    obtain ⟨hlen, hacc, hdebt, hpres, hbelow⟩ := hs
    exact ⟨h.pend.trans hlen, h.acc ▸ hacc, h.debt ▸ hdebt, by rw [h.presented, h.live, hpres], h.live ▸ h.below hbelow⟩
  history _ hs := hs.mono h.history h.live.ge

/-- Every coordinate is 0, as after a commit or a reset (R27, R28, R32, R62, R103, R104). -/
structure State.CoordsZero (s : State) : Prop where
  acc : s.lt.acc = 0
  debt : s.lt.debt = 0
  history : s.lt.history = List.replicate 64 0
  presented : s.pt.presented = 0
  settled : s.pt.settled = 0
  pend : s.sa.pend = []
  awaited : s.pt.awaited = []
  handed : s.ge.handed = []
  results : s.pt.results = []

theorem State.CoordsZero.lawsKept {t : State} (h : t.CoordsZero) (s : State) : LawsKept s t := by
  have hlive : t.lt.live = 0 := by rw [LengthTracker.live, h.acc]
  refine ⟨fun _ => ?_, fun _ _ => ?_⟩
  · simp [State.CoordSound, hlive, h.acc, h.debt, h.presented, h.settled, h.pend, h.awaited, h.handed, h.results]
  · simp [State.HistorySound, hlive, h.history]

/-! ### Wheel counts (R26 to R30) -/

/-- What the grid's decision leaves of the Length Tracker (R38). -/
theorem State.gridDecide_lt (s : State) (c : Nat) :
    (s.gridDecide c).lt =
      { s.lt with nextGrid := (s.gridDecide c).lt.nextGrid, spacingExpiry := (s.gridDecide c).lt.spacingExpiry } := by
  unfold State.gridDecide
  split
  · split
    · rfl
    · dsimp only
      split <;> rfl
  · rfl

/-- The grid decides about the Section Assembler, the grid point, the spacing timer and the head links alone (R38,
R40). -/
theorem State.gridDecide_blocks (s : State) (c : Nat) :
    (s.gridDecide c).inReset = s.inReset ∧ (s.gridDecide c).ge = s.ge ∧ (s.gridDecide c).pt = s.pt ∧
    (s.gridDecide c).au = s.au ∧ (s.gridDecide c).lp = s.lp := by
  unfold State.gridDecide
  split
  · split
    · exact ⟨rfl, rfl, rfl, rfl, rfl⟩
    · dsimp only
      split <;> exact ⟨rfl, rfl, rfl, rfl, rfl⟩
  · exact ⟨rfl, rfl, rfl, rfl, rfl⟩

/-- A trigger joins at most three pending slots, at a grid point at or below the coordinate reached (R38, R39, R40). -/
theorem State.gridDecide_pend (s : State) (c : Nat) :
    (s.gridDecide c).sa.pend = s.sa.pend ∨
      s.sa.pend.length < 4 ∧ ∃ p : PendSlot, p.coord ≤ c ∧ (s.gridDecide c).sa.pend = s.sa.pend ++ [p] := by
  unfold State.gridDecide
  split
  · split
    · exact .inl rfl
    · dsimp only
      split
      · rename_i pitch g _ _ _ hmay
        refine .inr ⟨?_, s.testSlot _, ?_, rfl⟩
        · simp only [State.mayTrigger, Bool.and_eq_true, decide_eq_true_eq] at hmay
          exact hmay.2
        · rw [State.testSlot_coord]
          exact Nat.div_mul_le_self c pitch
      · exact .inl rfl
  · exact .inl rfl

/-- The coordinate limit (R29): the limit condition, with COORD_LIMIT, at the largest coordinate. -/
def State.noteLimit (s : State) : State :=
  if s.lt.live = maxCoord then (s.setLt { s.lt with limit := true }).raise .coordLimit else s

theorem State.noteLimit_coordFrame (s : State) : CoordFrame s s.noteLimit := by
  unfold State.noteLimit
  split
  · exact .of_fields rfl rfl rfl rfl rfl rfl rfl rfl rfl
  · exact .refl s

/-- A changed live coordinate is presented behind the grid's decision (R30, R38). -/
theorem State.liveChanged_eq (s : State) :
    s.liveChanged = ((s.noteLimit.gridDecide s.lt.live).present s.lt.live).cascade := by
  have h : s.noteLimit.lt.live = s.lt.live := s.noteLimit_coordFrame.live
  have hgrid : (s.noteLimit.gridDecide s.lt.live).lt.live = s.lt.live := by
    rw [State.gridDecide_lt]
    exact h
  have hdef : s.liveChanged = ((s.noteLimit.gridDecide s.noteLimit.lt.live).present
      (s.noteLimit.gridDecide s.noteLimit.lt.live).lt.live).cascade := rfl
  rw [hdef, h, hgrid]

theorem State.gridDecide_coordsBelow {s : State} {c : Nat} (hs : s.CoordsBelow c) : (s.gridDecide c).CoordsBelow c := by
  obtain ⟨-, hge, hpt, -, -⟩ := s.gridDecide_blocks c
  refine ⟨hpt ▸ hs.presented, hpt ▸ hs.settled, fun x hx => ?_, hpt ▸ hs.awaited, hge ▸ hs.handed, hpt ▸ hs.results⟩
  rcases s.gridDecide_pend c with hpend | ⟨-, p, hp, hpend⟩
  · exact hs.pend x (hpend ▸ hx)
  · rw [hpend, List.map_append, List.mem_append] at hx
    rcases hx with hx | hx
    · exact hs.pend x hx
    · exact List.mem_singleton.1 hx ▸ hp

theorem State.gridDecide_pend_length {s : State} (c : Nat) (hs : s.sa.pend.length ≤ 4) :
    (s.gridDecide c).sa.pend.length ≤ 4 := by
  rcases s.gridDecide_pend c with hpend | ⟨hlen, p, -, hpend⟩ <;> rw [hpend]
  · exact hs
  · rw [List.length_append]
    exact hlen

/-- The coordinates behind a live coordinate that has risen are in order again once it has been presented (R30,
R104). -/
theorem State.liveChanged_coordSound {s : State} (hlen : s.sa.pend.length ≤ 4) (hacc : s.lt.acc ≤ maxAcc)
    (hdebt : s.lt.debt ≤ 65535) (hbelow : s.CoordsBelow s.lt.live) : s.liveChanged.CoordSound := by
  have hlimit := s.noteLimit_coordFrame
  have hgrid := State.gridDecide_coordsBelow (hlimit.below hbelow)
  have hlt := s.noteLimit.gridDecide_lt s.lt.live
  have hpresented : State.CoordSound ((s.noteLimit.gridDecide s.lt.live).setPt
      { (s.noteLimit.gridDecide s.lt.live).pt with presented := s.lt.live }) := by
    have hlive : (s.noteLimit.gridDecide s.lt.live).lt.live = s.lt.live := by
      rw [hlt]
      exact hlimit.live
    rw [State.coordSound_iff]
    simp only [State.setPt_sa, State.setPt_lt, State.setPt_pt, hlive, true_and]
    refine ⟨State.gridDecide_pend_length _ (hlimit.pend.trans hlen), ?_, ?_, le_rfl, hgrid.settled, hgrid.pend,
      hgrid.awaited, hgrid.handed, hgrid.results⟩
    · rw [hlt]
      exact hlimit.acc ▸ hacc
    · rw [hlt]
      exact hlimit.debt ▸ hdebt
  rw [s.liveChanged_eq]
  exact ((State.advance_coordFrame _).trans (State.cascade_coordFrame _)).lawsKept.coord hpresented

/-- What a changed live coordinate does to the Length Tracker: the limit and the grid's decision. -/
theorem State.liveChanged_lt (s : State) : s.liveChanged.lt = (s.noteLimit.gridDecide s.lt.live).lt := by
  rw [s.liveChanged_eq, (State.cascade_frame _).lt, (State.present_frame _ _).lt]
  rfl

theorem State.liveChanged_history (s : State) :
    s.liveChanged.lt.history = s.lt.history ∧ s.liveChanged.lt.live = s.lt.live := by
  rw [s.liveChanged_lt, State.gridDecide_lt]
  exact ⟨s.noteLimit_coordFrame.history, s.noteLimit_coordFrame.live⟩

/-- A change of the Length Tracker that leaves the count and the history, and keeps the debt in its range. -/
theorem State.setLt_lawsKept (s : State) {x : LengthTracker} (hacc : x.acc = s.lt.acc)
    (hhist : x.history = s.lt.history) (hdebt : s.lt.debt ≤ 65535 → x.debt ≤ 65535) : LawsKept s (s.setLt x) := by
  have hlive : x.live = s.lt.live := by rw [LengthTracker.live, LengthTracker.live, hacc]
  refine ⟨fun hs => ?_, fun _ hs => hs.mono hhist hlive.ge⟩
  obtain ⟨hlen, hbound, hd, hrest⟩ := hs
  refine ⟨hlen, hacc ▸ hbound, hdebt hd, ?_⟩
  simp only [State.setLt_lt, hlive]
  exact hrest

/-- A count that adds to the accumulator never lowers the live coordinate (R28). -/
theorem LengthTracker.live_le_counted (lt : LengthTracker) (h : lt.acc ≤ maxAcc) (n : Nat) :
    lt.live ≤ LengthTracker.live { lt with acc := min (lt.acc + n) maxAcc } :=
  Nat.div_le_div_right (le_min (Nat.le_add_right _ _) h)

theorem State.CoordsBelow.mono {s : State} {c d : Nat} (h : s.CoordsBelow c) (hcd : c ≤ d) : s.CoordsBelow d where
  presented := h.presented.trans hcd
  settled := h.settled.trans hcd
  pend x hx := (h.pend x hx).trans hcd
  awaited x hx := (h.awaited x hx).trans hcd
  handed x hx := (h.handed x hx).trans hcd
  results x hx := (h.results x hx).trans hcd

/-- The accumulator after a forward count that adds the scale (R28). -/
def State.counted (s : State) : State := s.setLt { s.lt with acc := min (s.lt.acc + s.lt.geom.scale) maxAcc }

theorem State.forwardCount_eq (s : State) (hdebt : s.lt.debt = 0) (hlimit : s.lt.limit = false) :
    s.forwardCount = if s.counted.lt.live = s.lt.live then s.counted else s.counted.liveChanged := by
  unfold State.forwardCount
  rw [if_neg (Nat.not_lt.2 hdebt.le), if_neg (Bool.eq_false_iff.1 hlimit)]
  rfl

theorem State.counted_lawsKept (s : State) :
    LawsKept s (if s.counted.lt.live = s.lt.live then s.counted else s.counted.liveChanged) := by
  refine ⟨fun hs => ?_, fun hs hhist => ?_⟩
  · rw [State.coordSound_iff] at hs
    obtain ⟨hlen, hacc, hdebt, hpres, hbelow⟩ := hs
    have hcounted : s.counted.lt.acc ≤ maxAcc := Nat.min_le_right _ _
    split
    · rename_i hlive
      rw [State.coordSound_iff, hlive]
      exact ⟨hlen, hcounted, hdebt, hpres, hbelow.presented, hbelow.settled, hbelow.pend, hbelow.awaited, hbelow.handed,
        hbelow.results⟩
    · have hrise := hbelow.mono (s.lt.live_le_counted hacc s.lt.geom.scale)
      exact State.liveChanged_coordSound hlen hcounted hdebt
        ⟨hrise.presented, hrise.settled, hrise.pend, hrise.awaited, hrise.handed, hrise.results⟩
  · obtain ⟨-, hacc, -⟩ := hs
    have hrise : s.lt.live ≤ s.counted.lt.live := s.lt.live_le_counted hacc _
    split
    · exact hhist.mono rfl hrise
    · obtain ⟨hkeep, hlive⟩ := s.counted.liveChanged_history
      exact hhist.mono hkeep (hlive ▸ hrise)

theorem State.forwardCount_lawsKept (s : State) : LawsKept s s.forwardCount := by
  by_cases hpay : 0 < s.lt.debt
  · simp only [State.forwardCount, hpay, if_true]
    exact s.setLt_lawsKept rfl rfl fun h => (Nat.sub_le _ _).trans h
  · cases hlimit : s.lt.limit with
    | true =>
      simp only [State.forwardCount, hpay, if_false, hlimit, if_true]
      exact .refl s
    | false =>
      rw [s.forwardCount_eq (Nat.eq_zero_of_not_pos hpay) hlimit]
      exact s.counted_lawsKept

theorem State.wheel_lawsKept (s : State) (a b : Bool) : LawsKept s (s.wheel a b) := by
  have hphase : LawsKept s (s.setLt { s.lt with phA := a, phB := b }) := s.setLt_lawsKept rfl rfl id
  unfold State.wheel
  dsimp only
  split
  · exact hphase
  · exact hphase.trans (State.forwardCount_lawsKept _)
  · exact hphase.trans (State.setLt_lawsKept _ rfl rfl fun _ => Nat.min_le_right _ _)

/-! ### The time base (R31) -/

theorem State.timeTo_coordFrame (s : State) (t : Nat) : CoordFrame s (s.timeTo t) :=
  .of_fields rfl rfl rfl rfl rfl rfl rfl rfl rfl

/-- A sample tick takes the live coordinate in front of the 63 newest samples (R31). -/
theorem State.takeSample_lawsKept (s : State) (t : Nat) : LawsKept s (s.takeSample t) := by
  refine ⟨id, fun _ hs => ?_⟩
  obtain ⟨hlen, hbound, hsorted⟩ := hs
  have hold : ∀ c ∈ s.lt.history.take 63, c ≤ s.lt.live := fun c hc => hbound c (List.mem_of_mem_take hc)
  refine ⟨?_, ?_, ?_⟩
  · simp [State.takeSample, hlen]
  · exact List.forall_mem_cons.2 ⟨le_rfl, hold⟩
  · exact List.pairwise_cons.2 ⟨hold, hsorted.sublist (List.take_sublist _ _)⟩

theorem State.fire_lawsKept (s : State) (t : Nat) (d : Due) : LawsKept s (s.fire t d) := by
  refine (s.timeTo_coordFrame t).lawsKept.trans ?_
  cases d with
  | sample => exact State.takeSample_lawsKept _ t
  | spacing => exact CoordFrame.lawsKept (.of_fields rfl rfl rfl rfl rfl rfl rfl rfl rfl)
  | timeout seq => exact (State.expireSlot_coordFrame _ seq).lawsKept
  | compilation => exact (State.compilationDone_coordFrame _).lawsKept

end Sys2Proof.Machine
end

section
/-! The laws of the coordinates and of their history (R27, R28, R31, R55, R104), kept by every command and by every
step. -/

namespace Sys2Proof.Machine

/-! ### Commands that leave the coordinates -/

theorem State.setGeometry_coordFrame (s : State) (p : List Byte) : CoordFrame s (s.setGeometry p).st := by
  unfold State.setGeometry
  (repeat' split) <;> exact .of_fields rfl rfl rfl rfl rfl rfl rfl rfl rfl

theorem State.setHeads_coordFrame (s : State) (e t m r : Nat) : CoordFrame s (s.setHeads e t m r).st := by
  unfold State.setHeads
  split
  · exact .refl s
  · split
    · exact .refl s
    · exact (State.settleSections_coordFrame _).after rfl rfl rfl rfl

theorem State.setHeadCal_coordFrame (s : State) (h : Byte) (x y z : Int) :
    CoordFrame s (s.setHeadCal h x y z).st := by
  unfold State.setHeadCal
  (repeat' split) <;> exact .of_blocks rfl rfl rfl rfl

theorem State.onSlot_coordFrame (s : State) (p : List Byte) {f : Fin 8 → Answer} (h : ∀ i, CoordFrame s (f i).st) :
    CoordFrame s (s.onSlot p f).st := by
  unfold State.onSlot
  split
  · exact h _
  · exact .refl s

theorem State.openSlot_coordFrame (s : State) (i : Fin 8) : CoordFrame s (s.openSlot i).st := by
  unfold State.openSlot
  dsimp only
  (repeat' split) <;> exact .of_blocks rfl rfl rfl rfl

theorem State.writeParams_coordFrame (s : State) (i : Fin 8) (r : List Byte) :
    CoordFrame s (s.writeParams i r).st := by
  unfold State.writeParams
  dsimp only
  (repeat' split) <;> exact .of_blocks rfl rfl rfl rfl

theorem State.writeProbes_coordFrame (s : State) (i : Fin 8) (start : Nat) (r : List (List Byte)) :
    CoordFrame s (s.writeProbes i start r).st := by
  unfold State.writeProbes
  dsimp only
  (repeat' split) <;> exact .of_blocks rfl rfl rfl rfl

theorem State.writeGauges_coordFrame (s : State) (i : Fin 8) (start : Nat) (r : List (List Byte)) :
    CoordFrame s (s.writeGauges i start r).st := by
  unfold State.writeGauges
  dsimp only
  (repeat' split) <;> exact .of_blocks rfl rfl rfl rfl

theorem State.sealSlot_coordFrame (s : State) (i : Fin 8) : CoordFrame s (s.sealSlot i).st := by
  unfold State.sealSlot
  dsimp only
  (repeat' split) <;> exact .of_blocks rfl rfl rfl rfl

theorem State.eraseSlot_coordFrame (s : State) (i : Fin 8) : CoordFrame s (s.eraseSlot i).st := by
  unfold State.eraseSlot
  dsimp only
  (repeat' split) <;> exact .of_blocks rfl rfl rfl rfl

theorem State.mapDie_coordFrame (s : State) (die : Nat) (slot enabled : Byte) :
    CoordFrame s (s.mapDie die slot enabled).st := by
  unfold State.mapDie
  (repeat' split) <;> exact .of_blocks rfl rfl rfl rfl

theorem State.unmapDie_coordFrame (s : State) (die : Nat) : CoordFrame s (s.unmapDie die).st := by
  unfold State.unmapDie
  (repeat' split) <;> exact .of_blocks rfl rfl rfl rfl

theorem State.startEngine_coordFrame (s : State) : CoordFrame s s.startEngine.st := by
  unfold State.startEngine
  split <;> exact .of_blocks rfl rfl rfl rfl

theorem State.haltEngine_coordFrame (s : State) : CoordFrame s s.haltEngine.st := by
  unfold State.haltEngine
  split <;> exact .of_blocks rfl rfl rfl rfl

theorem State.fetchFirst_coordFrame (s : State) : CoordFrame s s.fetchFirst.st := by
  unfold State.fetchFirst
  split <;> exact .of_blocks rfl rfl rfl rfl

theorem State.fetchNext_coordFrame (s : State) : CoordFrame s s.fetchNext.st := by
  unfold State.fetchNext
  (repeat' split) <;> exact .of_blocks rfl rfl rfl rfl

theorem State.setFetchPointer_coordFrame (s : State) (k : Nat) : CoordFrame s (s.setFetchPointer k).st := by
  unfold State.setFetchPointer
  (repeat' split) <;> exact .of_blocks rfl rfl rfl rfl

theorem State.release_coordFrame (s : State) (n : Nat) : CoordFrame s (s.release n).st := by
  unfold State.release
  (repeat' split) <;> exact .of_fields rfl rfl rfl rfl rfl rfl rfl rfl rfl

theorem State.ackAlerts_coordFrame (s : State) (mask : FlagSet) : CoordFrame s (s.ackAlerts mask).st := by
  simp only [State.ackAlerts, State.reloadBurst, State.taken]
  split <;> exact .of_fields rfl rfl rfl rfl rfl rfl rfl rfl rfl

theorem State.setMatch_coordFrame (s : State) (action coord : Nat) : CoordFrame s (s.setMatch action coord).st := by
  unfold State.setMatch
  (repeat' split) <;> exact .of_blocks rfl rfl rfl rfl

/-! Press notices. -/

theorem State.answerMark_coordFrame (s : State) (look : Nat × Bool) (formed : Nat) (m : Mark) :
    CoordFrame s (s.answerMark look formed m).st := (s.deliverMark_profileKept m).coordFrame (s.deliverMark_frame m)

theorem State.ramStop_coordFrame (s : State) (a n : Nat) : CoordFrame s (s.ramStop a n).st := by
  unfold State.ramStop
  dsimp only
  split
  case h_1 => exact .refl s
  case h_2 => split <;> exact .of_blocks rfl rfl rfl rfl
  all_goals
    split
    · exact .refl s
    · exact (State.answerMark_coordFrame _ _ _ _).after rfl rfl rfl rfl

theorem State.ramStart_coordFrame (s : State) (a n b : Nat) : CoordFrame s (s.ramStart a n b).st := by
  unfold State.ramStart
  dsimp only
  split
  case h_1 => exact .refl s
  case h_2 => split <;> exact .of_blocks rfl rfl rfl rfl
  all_goals
    split
    · exact .refl s
    · split
      · split
        · exact .of_blocks rfl rfl rfl rfl
        · exact (State.answerMark_coordFrame _ _ _ _).after rfl rfl rfl rfl
      · exact .of_blocks rfl rfl rfl rfl

theorem State.cutNotice_coordFrame (s : State) (a n : Nat) : CoordFrame s (s.cutNotice a n).st := by
  unfold State.cutNotice
  dsimp only
  split
  case h_1 => exact .refl s
  case h_2 => exact .refl s
  all_goals exact s.answerMark_coordFrame _ _ _

/-! ### Commits and the soft reset -/

theorem State.commitContext_blocks (s : State) (c : Commit) :
    (s.commitContext c).lt = s.lt ∧ (s.commitContext c).sa = s.sa ∧ (s.commitContext c).ge = s.ge ∧
    (s.commitContext c).pt = s.pt := by
  simp only [State.commitContext, State.clearBusy, State.writeLeftLink, State.putSlot]
  split <;> split <;> exact ⟨rfl, rfl, rfl, rfl⟩

/-- A commit sets every coordinate to 0 (R27, R28, R32, R62, R103). -/
theorem State.commit_coordsZero (s : State) (c : Commit) : (s.commit c).CoordsZero := by
  unfold State.commit
  dsimp only
  constructor <;>
    simp [State.commitContext_blocks, LengthTracker.zeroed, Assembler.committed, PieceTracker.committed]

/-- A soft reset sets every coordinate to 0 (R28, R32, R62, R64, R103). -/
theorem State.softReset_coordsZero (s : State) : s.softReset.CoordsZero := by constructor <;> rfl

/-- A switch fails or commits (R133). -/
theorem State.dieChange_st (s : State) (die : Nat) :
    (s.dieChange die).st = s.raise .switchFailed ∨ ∃ c, (s.dieChange die).st = s.commit c := by
  unfold State.dieChange
  split
  · exact .inl rfl
  · split
    · exact .inl rfl
    · split
      · exact .inl rfl
      · dsimp only
        split
        · exact .inl rfl
        · split
          · exact .inl rfl
          · split
            · exact .inl rfl
            · exact .inr ⟨_, rfl⟩

/-- A revert fails or commits (R141). -/
theorem State.revertSwitch_st (s : State) :
    s.revertSwitch.st = s.raise .switchFailed ∨ ∃ c, s.revertSwitch.st = s.commit c := by
  unfold State.revertSwitch
  split
  · exact .inl rfl
  · split
    · exact .inl rfl
    · split
      · exact .inl rfl
      · dsimp only
        split
        · exact .inl rfl
        · split
          · exact .inl rfl
          · split
            · exact .inl rfl
            · exact .inr ⟨_, rfl⟩

/-- What fails or commits keeps the laws. -/
theorem LawsKept.of_switch {s t : State} (h : t = s.raise .switchFailed ∨ ∃ c, t = s.commit c) : LawsKept s t := by
  rcases h with rfl | ⟨c, rfl⟩
  · exact (s.raise_coordFrame _).lawsKept
  · exact (s.commit_coordsZero c).lawsKept s

/-! ### Every step -/

theorem State.runCommand_lawsKept (s : State) (c : Command) (a : Nat) (p : List Byte) :
    LawsKept s (s.runCommand c a p).st := by
  cases c
  case identify => exact .refl s
  case sense => exact .refl s
  case getStatus => exact .refl s
  case setGeometry => exact (s.setGeometry_coordFrame p).lawsKept
  case setHeads => exact (s.setHeads_coordFrame _ _ _ _).lawsKept
  case setHeadCal => exact (s.setHeadCal_coordFrame _ _ _ _).lawsKept
  case openSlot => exact (s.onSlot_coordFrame p s.openSlot_coordFrame).lawsKept
  case writeParams => exact (s.onSlot_coordFrame p fun i => s.writeParams_coordFrame i _).lawsKept
  case writeProbesFirst => exact (s.onSlot_coordFrame p fun i => s.writeProbes_coordFrame i _ _).lawsKept
  case writeProbesNext => exact (s.onSlot_coordFrame p fun i => s.writeProbes_coordFrame i _ _).lawsKept
  case writeGaugesFirst => exact (s.onSlot_coordFrame p fun i => s.writeGauges_coordFrame i _ _).lawsKept
  case writeGaugesNext => exact (s.onSlot_coordFrame p fun i => s.writeGauges_coordFrame i _ _).lawsKept
  case sealSlot => exact (s.onSlot_coordFrame p s.sealSlot_coordFrame).lawsKept
  case eraseSlot => exact (s.onSlot_coordFrame p s.eraseSlot_coordFrame).lawsKept
  case querySlot => exact (s.onSlot_coordFrame p fun _ => .refl s).lawsKept
  case mapDie => exact (s.mapDie_coordFrame _ _ _).lawsKept
  case unmapDie => exact (s.unmapDie_coordFrame _).lawsKept
  case dieChange => exact .of_switch (s.dieChange_st _)
  case revert => exact .of_switch s.revertSwitch_st
  case start => exact s.startEngine_coordFrame.lawsKept
  case halt => exact s.haltEngine_coordFrame.lawsKept
  case noteRamStop => exact (s.ramStop_coordFrame _ _).lawsKept
  case noteRamStart => exact (s.ramStart_coordFrame _ _ _).lawsKept
  case noteCut => exact (s.cutNotice_coordFrame _ _).lawsKept
  case fetchFirst => exact s.fetchFirst_coordFrame.lawsKept
  case fetchNext => exact s.fetchNext_coordFrame.lawsKept
  case setFetchPointer => exact (s.setFetchPointer_coordFrame _).lawsKept
  case release => exact (s.release_coordFrame _).lawsKept
  case setTrace => exact CoordFrame.lawsKept (.of_blocks rfl rfl rfl rfl)
  case setNotices => exact CoordFrame.lawsKept (.of_blocks rfl rfl rfl rfl)
  case ackAlerts => exact (s.ackAlerts_coordFrame _).lawsKept
  case setMatch => exact (s.setMatch_coordFrame _ _).lawsKept
  case resetEngine => exact s.softReset_coordsZero.lawsKept s

theorem State.answerFrame_lawsKept (s : State) (f : CmdFrame) : LawsKept s (s.answerFrame f).st := by
  unfold State.answerFrame
  split
  · exact .refl s
  · split
    · exact s.runCommand_lawsKept _ _ _
    · exact .refl s

theorem State.takeFrame_lawsKept (s : State) : LawsKept s s.takeFrame := by
  unfold State.takeFrame
  split
  · rename_i f rest _ _
    have hqueue : CoordFrame s (s.setLp { s.lp with queue := rest }) := .of_blocks rfl rfl rfl rfl
    refine (hqueue.lawsKept.trans (State.answerFrame_lawsKept _ f)).trans ?_
    exact CoordFrame.lawsKept (.of_blocks rfl rfl rfl rfl)
  · exact .refl s

/-- The end of a step, in which the decoder may take frames, keeps the laws. -/
theorem State.settle_lawsKept (s : State) : LawsKept s s.settle :=
  (s.takeFrame_lawsKept.trans (State.transmit_coordFrame _).lawsKept).trans (State.takeFrame_lawsKept _)

theorem State.runTimers_lawsKept : ∀ (n : Nat) (s : State) (limit : Nat), LawsKept s (State.runTimers n s limit)
  | 0, s, _ => .refl s
  | n + 1, s, limit => by
    unfold State.runTimers
    split
    · exact .refl s
    · exact ((s.fire_lawsKept _ _).trans (State.settle_lawsKept _)).trans (State.runTimers_lawsKept n _ limit)

theorem State.driven_lawsKept (s : State) (t : Nat) (d : Due) : LawsKept s (s.driven t d) :=
  (State.runTimers_lawsKept _ s t).trans (State.fire_lawsKept _ t d)

theorem State.spacingRow_lawsKept (s : State) : LawsKept s s.spacingRow := by
  unfold State.spacingRow
  split
  · exact s.driven_lawsKept _ _
  · exact .refl s

theorem State.timeoutRow_lawsKept (s : State) (seq : Seq) : LawsKept s (s.timeoutRow seq) := by
  unfold State.timeoutRow
  split
  · exact s.driven_lawsKept _ _
  · exact .refl s

theorem State.tick_lawsKept (s : State) : LawsKept s s.tick := by
  unfold State.tick
  split
  · exact .refl s
  · exact (State.runTimers_lawsKept _ s _).trans (State.timeTo_coordFrame _ _).lawsKept

/-- A hard reset sets every coordinate to 0 (R182). -/
theorem State.hardReset_lawsKept (s : State) (n : Nat) : LawsKept s (s.hardReset n) := by
  unfold State.hardReset
  split
  · exact .refl s
  · exact State.CoordsZero.lawsKept (by constructor <;> rfl) s

/-- A row's answer is a next state in which the laws are kept. -/
def NextLawsKept (s : State) (o : Host.Outcome State Fault Refusal) : Prop := ∃ t, o = .next t ∧ LawsKept s t

theorem event_lawsKept {f : State → State} {s : State} (h : LawsKept s (f s)) : NextLawsKept s (event f s) := by
  refine ⟨_, rfl, ?_⟩
  split
  · exact .refl s
  · exact h.trans (State.settle_lawsKept _)

theorem exec_lawsKept (i : Instr) (s : State) : NextLawsKept s (exec i s) := by
  cases i
  case wheelCount a b => exact event_lawsKept (f := (·.wheel a b)) (s.wheel_lawsKept a b)
  case sampleTick => exact event_lawsKept (f := State.sampleTick) (s.driven_lawsKept _ _)
  case spacingTimerExpiry => exact event_lawsKept (f := State.spacingRow) s.spacingRow_lawsKept
  case assemblyTimeoutExpiry seq => exact event_lawsKept (f := (·.timeoutRow seq)) (s.timeoutRow_lawsKept seq)
  case sectionFrameReceived h run =>
    exact event_lawsKept (f := (·.sectionFrameEnds h run)) (s.headHears_coordFrame h _ _ run).lawsKept
  case headLockLoss h => exact event_lawsKept (f := (·.headLockLoss h)) (s.headLockLoss_coordFrame h).lawsKept
  case headSymbolError h inFrame run sym =>
    exact event_lawsKept (f := (·.headSymbolError h inFrame run sym)) (s.headHears_coordFrame h _ _ _).lawsKept
  case sectionEvaluation => exact event_lawsKept (f := State.evaluateNext) s.evaluateNext_coordFrame.lawsKept
  case sectionApplication => exact event_lawsKept (f := State.applySection) s.applySection_coordFrame.lawsKept
  case compilationComplete => exact event_lawsKept (f := State.compilationDone) s.compilationDone_coordFrame.lawsKept
  case lineFrameReceived run =>
    exact event_lawsKept (f := (·.lineFrameEnds run)) (s.lineHears_coordFrame _ _ run).lawsKept
  case lineLockLoss inFrame =>
    exact event_lawsKept (f := (·.lineLockLoss inFrame)) (s.lineLockLoss_coordFrame inFrame).lawsKept
  case lineSymbolError inFrame run sym =>
    exact event_lawsKept (f := (·.lineSymbolError inFrame run sym)) (s.lineHears_coordFrame _ _ _).lawsKept
  case transmitFrameEnd => exact event_lawsKept (f := State.frameEnd) (CoordFrame.lawsKept (.of_blocks rfl rfl rfl rfl))
  case hardReset n => exact ⟨_, rfl, s.hardReset_lawsKept n⟩
  case hardResetRelease => exact ⟨_, rfl, CoordFrame.lawsKept (.of_blocks rfl rfl rfl rfl)⟩
  case headLockGain h => exact event_lawsKept (f := (·.headLockGain h)) (s.headLockGain_coordFrame h).lawsKept
  case lineLockGain => exact event_lawsKept (f := State.lineLockGain) (CoordFrame.lawsKept (.of_blocks rfl rfl rfl rfl))
  all_goals exact event_lawsKept (f := (·.goodCommand _ _ _)) (s.goodCommand_coordFrame _ _ _).lawsKept

/-- A step is a row on the rest of the queue, or a microsecond. -/
theorem step_lawsKept {s t : State} (h : step s = .next t) : LawsKept s t := by
  unfold step at h
  split at h
  · rename_i c rest _
    obtain ⟨u, hu, hkept⟩ := exec_lawsKept c (s.setPending rest)
    rw [hu] at h
    cases h
    have hrest : CoordFrame s (s.setPending rest) := .of_blocks rfl rfl rfl rfl
    exact hrest.lawsKept.trans hkept
  · cases h
    exact s.tick_lawsKept

/-- Settles O12: what is not a wheel count raises no coordinate, and a wheel count raises the live one first. -/
theorem coordLawKept : Obligations.CoordLawKept := fun _ _ hs hstep => (step_lawsKept hstep).coord hs

/-- Settles O13: the history changes at a sample tick, a commit or a reset alone, and the live coordinate falls at a
commit or a reset alone. -/
theorem historyLawKept : Obligations.HistoryLawKept := fun _ _ hs hhist hstep => (step_lawsKept hstep).history hs hhist

end Sys2Proof.Machine
end

section
/-! Back-dating (R33) and the line geometry (R34, R35). -/

namespace Sys2Proof.Machine

/-! ### Back-dating -/

theorem sampleIndex_of_le {a : Int} (h : a ≤ 0) : sampleIndex a = 0 := if_pos h

/-- An age of more than 0 is divided by 1,000 and rounded up (R33). -/
theorem sampleIndex_of_pos {a : Int} (h : 0 < a) : sampleIndex a = (a.toNat + 999) / 1000 := if_neg (by omega)

theorem LengthTracker.lookup_of_index {lt : LengthTracker} {arrival age i : Nat}
    (h : sampleIndex ((lt.lastTick : Int) - ((arrival : Int) - (age : Int))) = i) :
    lt.lookup arrival age = if i ≤ 63 then (lt.history.getD i 0, false) else (lt.history.getD 63 0, true) := by
  subst h
  rfl

/-- Settles O26: by the index that the lookup asks for. -/
theorem lookupOfAnEvent : Obligations.LookupOfAnEvent := by
  intro lt arrival age a
  refine ⟨fun h => ?_, fun i h1 h63 hlo hhi => ?_, fun h => ?_⟩
  · exact LengthTracker.lookup_of_index (sampleIndex_of_le h)
  · have hindex : sampleIndex a = i := by
      rw [sampleIndex_of_pos (by omega)]
      omega
    rw [LengthTracker.lookup_of_index hindex, if_pos h63]
  · have hindex : 63 < sampleIndex a := by
      rw [sampleIndex_of_pos (by omega)]
      omega
    rw [LengthTracker.lookup_of_index rfl, if_neg (Nat.not_le.2 hindex)]

/-! ### The line geometry -/

theorem fourOf_eq {b : Byte} {q : Fin 4} (h : b.toNat = q.val) : fourOf b = q :=
  Fin.ext (by simp only [fourOf, h]; omega)

/-- The fields of a sent line geometry, read back (R185). -/
structure GeometryReadsAs (p : List Byte) (dDie dSaw scale : Nat) (d q0 q1 q2 q3 : Byte) : Prop where
  dDie : natAt p 0 4 = dDie
  dSaw : natAt p 4 4 = dSaw
  scale : natAt p 8 4 = scale
  bytes : byteAt p 12 = d ∧ byteAt p 13 = q0 ∧ byteAt p 14 = q1 ∧ byteAt p 15 = q2 ∧ byteAt p 16 = q3

theorem geometry_readsAs {dDie dSaw scale : Nat} (h1 : dDie < 4294967296) (h2 : dSaw < 4294967296)
    (h3 : scale < 4294967296) (d q0 q1 q2 q3 : Byte) :
    GeometryReadsAs (leBytes 4 dDie ++ leBytes 4 dSaw ++ leBytes 4 scale ++ [d, q0, q1, q2, q3]) dDie dSaw scale
      d q0 q1 q2 q3 := by
  simp only [List.append_assoc]
  constructor
  · exact natAt_front h1
  · rw [natAt_behind le_rfl]
    exact natAt_front h2
  · rw [natAt_behind (by decide), natAt_behind (by decide)]
    exact natAt_front h3
  · exact ⟨rfl, rfl, rfl, rfl, rfl⟩

/-- The number of the lowest-numbered field out of range, 0 when all are in range (R34). -/
def geometryFaultCode (dDie dSaw scale : Nat) (d q0 q1 q2 q3 : Byte) : Nat :=
  if ¬ (10000 ≤ dDie ∧ dDie ≤ 600000) then 1 else if ¬ dSaw < dDie then 2
  else if ¬ (1 ≤ scale ∧ scale ≤ 16777215) then 3 else if 1 < d.toNat then 4 else if 3 < q0.toNat then 5
  else if 3 < q1.toNat then 6 else if 3 < q2.toNat then 7 else if 3 < q3.toNat then 8 else 0

section
variable {p : List Byte} {dDie dSaw scale : Nat} {d q0 q1 q2 q3 : Byte}

theorem GeometryReadsAs.fault (h : GeometryReadsAs p dDie dSaw scale d q0 q1 q2 q3) :
    geometryFault p = if geometryFaultCode dDie dSaw scale d q0 q1 q2 q3 = 0 then none
      else some (geometryFaultCode dDie dSaw scale d q0 q1 q2 q3) := by
  obtain ⟨hd, h0, h1, h2, h3⟩ := h.bytes
  have hbyte (o : Nat) : natAt p o 1 = (byteAt p o).toNat := natAt_one p o
  unfold geometryFault
  rw [firstFailing_eq_failCode (by simp)]
  simp only [failCode_cons, failCode_nil, hbyte, h.dDie, h.dSaw, h.scale, hd, h0, h1, h2, h3, natIn_zero_eq_false]
  simp only [natIn_eq_false, decide_eq_false_iff_not]
  rfl

theorem GeometryReadsAs.geometry (h : GeometryReadsAs p dDie dSaw scale d q0 q1 q2 q3) :
    geometryOf p = { dDie := dDie, dSaw := dSaw, scale := scale, dir := directionOf d,
                     quad := ⟨fourOf q0, fourOf q1, fourOf q2, fourOf q3⟩ } := by
  obtain ⟨hd, h0, h1, h2, h3⟩ := h.bytes
  simp only [geometryOf, h.dDie, h.dSaw, h.scale, hd, h0, h1, h2, h3]

theorem State.setGeometry_idle {s : State} (h : s.cc.engine = .idle)
    (hp : GeometryReadsAs p dDie dSaw scale d q0 q1 q2 q3) :
    s.setGeometry p = if geometryFaultCode dDie dSaw scale d q0 q1 q2 q3 = 0 then
        ⟨s.setLt { s.lt with geom := geometryOf p }, .ok, 0, .summaryOnly⟩
      else ⟨s, .badValue, geometryFaultCode dDie dSaw scale d q0 q1 q2 q3, .summaryOnly⟩ := by
  unfold State.setGeometry
  rw [h]
  dsimp only
  rw [hp.fault]
  by_cases hn : geometryFaultCode dDie dSaw scale d q0 q1 q2 q3 = 0
  · rw [if_pos hn, if_pos hn]
    rfl
  · rw [if_neg hn, if_neg hn]
    rfl

end

theorem State.setGeometry_switching {s : State} (h : s.cc.engine = .switching) (p : List Byte) :
    s.setGeometry p = ⟨s, .busy, 0, .summaryOnly⟩ := by
  simp only [State.setGeometry, h, State.refuse]

theorem State.setGeometry_tracks {s : State} (h : s.cc.engine.tracks = true) (p : List Byte) :
    s.setGeometry p = ⟨s, .wrongState, 0, .summaryOnly⟩ := by
  cases he : s.cc.engine
  case idle => rw [he] at h; cases h
  case switching => rw [he] at h; cases h
  all_goals simp only [State.setGeometry, he, State.refuse]

/-- Settles O27: by the engine state, and in IDLE by the first field out of range. -/
theorem setGeometry : Obligations.SetGeometry := by
  intro tag s hs
  have hrun {p : List Byte} (hlen : p.length = 17) {a : Answer} (ha : s.setGeometry p = a) :
      exec (.setGeometry tag p) s = .next (s.replyTo .setGeometry tag p a) :=
    exec_answered (c := .setGeometry) hs (beq_iff_eq.2 hlen) ha
  refine ⟨fun p hlen he => hrun hlen (State.setGeometry_switching he p),
    fun p hlen he => hrun hlen (State.setGeometry_tracks he p), ?_⟩
  intro dDie dSaw scale d q0 q1 q2 q3 he h1 h2 h3 p n
  have hreads := geometry_readsAs h1 h2 h3 d q0 q1 q2 q3
  have hset := State.setGeometry_idle he hreads
  have hlen : p.length = 17 := by simp [p]
  refine ⟨fun hn => hrun hlen (hset.trans (if_neg hn)), ?_⟩
  intro a0 a1 a2 a3 hn ha0 ha1 ha2 ha3
  rw [hreads.geometry, fourOf_eq ha0, fourOf_eq ha1, fourOf_eq ha2, fourOf_eq ha3] at hset
  exact hrun hlen (hset.trans (if_pos hn))

end Sys2Proof.Machine
end

section
/-! Wheel counts (R26 to R29): the decoded pair, and the counts at which the live coordinate stays. -/

namespace Sys2Proof.Machine

/-! ### The end of a step at a drained Line Port (R172, R180) -/

theorem State.Drained.of_lp {s t : State} (hs : s.Drained) (hreset : t.inReset = s.inReset) (hlp : t.lp = s.lp) :
    t.Drained := by
  obtain ⟨h, hqueue, hslot⟩ := hs
  exact ⟨hreset.trans h, hlp ▸ hqueue, hlp ▸ hslot⟩

theorem State.Drained.settle {s : State} (hs : s.Drained) : s.settle = s.transmit := by
  obtain ⟨-, hqueue, hslot⟩ := hs
  exact s.settle_eq_transmit hqueue hslot

/-- An event behind which nothing waits for the decoder ends with the transmitter's choice. -/
theorem event_of_drained {s : State} {f : State → State} (hs : s.inReset = false) (hf : (f s).Drained) :
    event f s = .next (f s).transmit := by
  rw [event, hs, if_neg Bool.false_ne_true, hf.settle]

/-! ### The decoded pair (R26) -/

/-- The pair after (a, b) in forward travel (R26). -/
def nextPair (d : Direction) (a b : Bool) : Bool × Bool := if d = .phaseALeads then (!b, a) else (b, !a)

/-- The pair after (a, b) in reverse travel (R26). -/
def prevPair (d : Direction) (a b : Bool) : Bool × Bool := if d = .phaseALeads then (b, !a) else (!b, a)

theorem wheelStep_nextPair (d : Direction) (a b : Bool) :
    wheelStep d a b (nextPair d a b).1 (nextPair d a b).2 = .forward := by
  cases d <;> cases a <;> cases b <;> rfl

theorem wheelStep_prevPair (d : Direction) (a b : Bool) :
    wheelStep d a b (prevPair d a b).1 (prevPair d a b).2 = .reverse := by
  cases d <;> cases a <;> cases b <;> rfl

theorem wheelStep_same (d : Direction) (a b : Bool) : wheelStep d a b a b = .noCount := by
  simp [wheelStep]

theorem wheelStep_missed (d : Direction) (a b : Bool) : wheelStep d a b (!a) (!b) = .noCount := by
  simp [wheelStep]

/-- The previous pair is replaced by the pair decoded. -/
def State.phased (s : State) (a b : Bool) : State := s.setLt { s.lt with phA := a, phB := b }

section
variable {s : State} {a b : Bool}

theorem State.wheel_noCount (h : wheelStep s.lt.geom.dir s.lt.phA s.lt.phB a b = .noCount) :
    s.wheel a b = s.phased a b := by
  simp only [State.wheel, h, State.phased]

theorem State.wheel_forward (h : wheelStep s.lt.geom.dir s.lt.phA s.lt.phB a b = .forward) :
    s.wheel a b = (s.phased a b).forwardCount := by
  simp only [State.wheel, h, State.phased]

theorem State.wheel_reverse (h : wheelStep s.lt.geom.dir s.lt.phA s.lt.phB a b = .reverse) :
    s.wheel a b = (s.phased a b).reverseCount := by
  simp only [State.wheel, h, State.phased]

theorem exec_wheelCount (hs : s.Drained) {u : State} (h : s.wheel a b = u) (hreset : u.inReset = s.inReset)
    (hlp : u.lp = s.lp) : exec (.wheelCount a b) s = .next u.transmit := by
  subst h
  exact event_of_drained (f := (·.wheel a b)) hs.1 (hs.of_lp hreset hlp)

end

/-! ### Counts at which the live coordinate stays (R27 to R29) -/

theorem State.forwardCount_debt {s : State} (h : 0 < s.lt.debt) :
    s.forwardCount = s.setLt { s.lt with debt := s.lt.debt - 1 } := if_pos h

theorem State.forwardCount_limit {s : State} (h : s.lt.debt = 0) (hlimit : s.lt.limit = true) : s.forwardCount = s := by
  unfold State.forwardCount
  rw [if_neg (Nat.not_lt.2 h.le), if_pos hlimit]

/-- Settles O23: by the step decoded, and for a forward count by the debt and the limit. -/
theorem wheelCountHoldsTheCoordinate : Obligations.WheelCountHoldsTheCoordinate := by
  intro s hs a b lead fwd rev
  have hfwd : wheelStep s.lt.geom.dir s.lt.phA s.lt.phB fwd.1 fwd.2 = .forward := wheelStep_nextPair _ _ _
  have hrev : wheelStep s.lt.geom.dir s.lt.phA s.lt.phB rev.1 rev.2 = .reverse := wheelStep_prevPair _ _ _
  refine ⟨exec_wheelCount hs (State.wheel_noCount (wheelStep_same _ _ _)) rfl rfl,
    exec_wheelCount hs (State.wheel_noCount (wheelStep_missed _ _ _)) rfl rfl,
    exec_wheelCount hs (State.wheel_reverse hrev) rfl rfl, fun hdebt => ?_, fun hdebt hlimit => ?_,
    fun hdebt hlimit hlive => ?_⟩
  · exact exec_wheelCount hs ((State.wheel_forward hfwd).trans (State.forwardCount_debt hdebt)) rfl rfl
  · exact exec_wheelCount hs ((State.wheel_forward hfwd).trans (State.forwardCount_limit hdebt hlimit)) rfl rfl
  · refine exec_wheelCount hs (u := (s.phased fwd.1 fwd.2).counted) ?_ rfl rfl
    exact (State.wheel_forward hfwd).trans ((State.forwardCount_eq (s.phased fwd.1 fwd.2) hdebt hlimit).trans
      (if_pos hlive))

end Sys2Proof.Machine
end

section
/-! The forward count that moves the live coordinate (R28 to R30): the limit, the grid's decision and its trigger (R38
to R40), the trigger's pending slot (R55, R57, R58), and its retirement where it waits for no head (R59). -/

namespace Sys2Proof.Machine

/-! ### The completion test and the retirement of one slot -/

theorem allHeads_any {f : Fin 4 → Bool} : allHeads.any f = true ↔ ∃ h, f h = true := by
  simp [allHeads, Fin.exists_fin_succ]

/-- A trigger's slot as it is taken: no frame, no head passed over, WAITING (R40, R55). -/
def newSlot (seq : Seq) (coord expiry : Nat) : PendSlot :=
  { seq := seq, coord := coord, frames := ⟨none, none, none, none⟩, passed := 0, expiry := expiry, contrib := none }

theorem State.waitsFor_newSlot (s : State) (seq : Seq) (coord expiry : Nat) (h : Fin 4) :
    s.waitsFor (newSlot seq coord expiry) h = (s.head h).isActive := by
  have hframe : ((newSlot seq coord expiry).frames.get h).isNone = true := by fin_cases h <;> rfl
  have hpassed : HeadSet.has (newSlot seq coord expiry).passed h = false := BitVec.getLsbD_zero
  simp only [State.waitsFor, hframe, hpassed, Bool.and_true, Bool.not_false]

theorem Head.isActive_iff {x : Head} : x.isActive = true ↔ x.status = .active := by simp [Head.isActive]

/-- With an ACTIVE head a new slot is WAITING (R57). -/
theorem State.testSlot_newSlot_waiting {s : State} (hactive : ∃ h, (s.head h).status = .active) (seq : Seq)
    (coord expiry : Nat) : s.testSlot (newSlot seq coord expiry) = newSlot seq coord expiry := by
  have hany : allHeads.any (s.waitsFor (newSlot seq coord expiry)) = true := by
    obtain ⟨h, hh⟩ := hactive
    exact allHeads_any.2 ⟨h, by rw [s.waitsFor_newSlot, Head.isActive_iff, hh]⟩
  simp [State.testSlot, hany]

/-- With no ACTIVE head a new slot is COMPLETE with no contributing head (R57). -/
theorem State.testSlot_newSlot_complete {s : State} (hidle : ∀ h, (s.head h).status ≠ .active) (seq : Seq)
    (coord expiry : Nat) :
    s.testSlot (newSlot seq coord expiry) = { newSlot seq coord expiry with contrib := some 0 } := by
  have hinactive (h : Fin 4) : (s.head h).isActive = false := by
    rw [Bool.eq_false_iff, ne_eq, Head.isActive_iff]
    exact hidle h
  have hany : allHeads.any (s.waitsFor (newSlot seq coord expiry)) = false := by
    rw [Bool.eq_false_iff, ne_eq, allHeads_any]
    rintro ⟨h, hh⟩
    rw [s.waitsFor_newSlot, hinactive] at hh
    cases hh
  have hcomplete : s.complete (newSlot seq coord expiry) = { newSlot seq coord expiry with contrib := some 0 } := by
    simp only [State.complete, hinactive, Bool.false_and]
    rfl
  simp only [State.testSlot, hany, hcomplete]
  rfl

/-- WAITING slots stay in the trigger order (R59). -/
theorem State.cascade_of_waiting {s : State} (h : ∀ p ∈ s.sa.pend, p.contrib = none) : s.cascade = s := by
  unfold State.cascade
  cases hpend : s.sa.pend with
  | nil => rfl
  | cons p rest => simp only [List.length_cons, State.retireUpTo, hpend, h p (hpend ▸ List.mem_cons_self)]

theorem State.cascade_single {s : State} {p : PendSlot} {c : HeadSet} (hpend : s.sa.pend = [p])
    (hc : p.contrib = some c) : s.cascade = s.retire p c := by
  simp only [State.cascade, hpend, List.length_singleton, State.retireUpTo, hc]

theorem readings_empty (p : PendSlot) : readings p 0 = [] := by simp [readings, HeadSet.has]

/-- Without a reading a section has the held temperature (R61). -/
theorem State.sectionTemperature_held {s : State} {p : PendSlot} {c : HeadSet} (h : readings p c = []) :
    (s.sectionTemperature p c).1 = s.sa.heldTemp ∧ (s.sectionTemperature p c).2.1 = true := by
  simp [State.sectionTemperature, h]

theorem State.sectionTemperature_blocks (s : State) (p : PendSlot) (c : HeadSet) :
    (s.sectionTemperature p c).2.2.hl = s.hl ∧ (s.sectionTemperature p c).2.2.ge = s.ge ∧
    (s.sectionTemperature p c).2.2.pt = s.pt := by
  unfold State.sectionTemperature
  split
  · dsimp only
    split <;> exact ⟨rfl, rfl, rfl⟩
  · exact ⟨rfl, rfl, rfl⟩

theorem State.countMisses_blocks (s : State) (p : PendSlot) :
    (s.countMisses p).sa = s.sa ∧ (s.countMisses p).ge = s.ge ∧ (s.countMisses p).pt = s.pt := by
  unfold State.countMisses
  dsimp only
  split <;> exact ⟨rfl, rfl, rfl⟩

/-- A retirement frees the oldest slot, hands its section and lets its coordinate be awaited (R59). -/
theorem State.retire_hands (s : State) (p : PendSlot) (c : HeadSet) :
    (s.retire p c).sa.pend.length = s.sa.pend.length - 1 ∧ (s.retire p c).pt.awaited = s.pt.awaited ++ [p.coord] ∧
    (s.retire p c).ge.handed = s.ge.handed ++ [{
      seq := p.seq, coord := p.coord, temp := (s.sectionTemperature p c).1, held := (s.sectionTemperature p c).2.1,
      contrib := c, heads := perHead (s.headData p c) }] := by
  obtain ⟨hhl, hge, hpt⟩ := s.sectionTemperature_blocks p c
  have hpend := s.sectionTemperature_pend p c
  unfold State.retire
  generalize s.sectionTemperature p c = r at hhl hge hpt hpend
  obtain ⟨temp, held, u⟩ := r
  have hdata : u.headData p c = s.headData p c := by
    funext h
    simp only [State.headData, State.head, show u.hl = s.hl from hhl]
  dsimp only at hpend hge hpt ⊢
  rw [(State.advance_frame _).sa, (State.advance_frame _).awaited, (State.advance_frame _).ge, ← hpend, ← hge, ← hpt,
    ← hdata]
  have hmisses := (u.hand p c temp held).countMisses_blocks p
  generalize (u.hand p c temp held).countMisses p = v at hmisses ⊢
  obtain ⟨hsa, hge', hpt'⟩ := hmisses
  refine ⟨?_, ?_, ?_⟩
  · simp [State.testSlots, hsa, State.hand]
  · simp [State.testSlots, hpt', State.hand]
  · simp [State.testSlots, hge', State.hand]

/-- A slot without a contributing head is retired with the held temperature and no head's data (R59, R61). -/
theorem State.retire_empty (s : State) (p : PendSlot) :
    (s.retire p 0).ge.handed = s.ge.handed ++ [{
      seq := p.seq, coord := p.coord, temp := s.sa.heldTemp, held := true, contrib := 0
      heads := ⟨none, none, none, none⟩ }] := by
  obtain ⟨-, -, hhanded⟩ := s.retire_hands p 0
  obtain ⟨htemp, hheld⟩ := State.sectionTemperature_held (s := s) (readings_empty p)
  have hdata : perHead (s.headData p 0) = ⟨none, none, none, none⟩ := by simp [perHead, State.headData, HeadSet.has]
  rw [hhanded, htemp, hheld, hdata]

/-! ### The grid's decision (R38 to R40) -/

/-- A slot of a trigger is tested as soon as it is taken (R40, R57). -/
theorem State.issueTrigger_pend (s : State) (g : Nat) : (s.issueTrigger g).sa.pend =
    s.sa.pend ++ [s.testSlot (newSlot s.sa.seq g (s.lt.time + s.hl.timeout * 1000))] := rfl

theorem State.issueTrigger_trigOut (s : State) (g : Nat) (h : Fin 4) : ((s.issueTrigger g).head h).trigOut =
    if (s.head h).status ≠ .disabled then some { seq := s.sa.seq, coord := g } else (s.head h).trigOut := by
  have hhead : (s.issueTrigger g).head h = if (s.head h).enabled then
      (s.head h).sendTrigger h { seq := s.sa.seq, coord := g } else s.head h := perHead_get _ h
  rw [hhead]
  by_cases hen : (s.head h).status = .disabled <;> simp [Head.enabled, hen, Head.sendTrigger]

/-- The conditions of R39. -/
theorem State.mayTrigger_iff (s : State) : s.mayTrigger = true ↔
    (s.cc.engine = .running ∨ s.cc.engine = .halting) ∧ s.lt.limit = false ∧ s.lt.live ≠ maxCoord ∧
      s.lt.spacingExpiry = none ∧ s.sa.pend.length < 4 := by
  simp [State.mayTrigger, and_assoc]

section
variable {s : State} {pitch g c : Nat} (hpitch : s.lt.pitch = some pitch) (hgrid : s.lt.nextGrid = some g)
include hpitch hgrid

theorem State.gridDecide_below (hc : c < g) : s.gridDecide c = s := by
  simp only [State.gridDecide, hpitch, hgrid, hc, if_true]

theorem State.gridDecide_reached (hc : g ≤ c) : s.gridDecide c =
    (if s.mayTrigger then s.issueTrigger (c / pitch * pitch) else s).setLt
      { (if s.mayTrigger then s.issueTrigger (c / pitch * pitch) else s).lt with nextGrid := gridAbove pitch c } := by
  simp only [State.gridDecide, hpitch, hgrid, Nat.not_lt.2 hc, if_false]

end

/-- Without a trigger the grid's decision leaves the Section Assembler, the spacing timer and the head links (R38). -/
theorem State.gridDecide_unissued {s : State} {pitch g c : Nat} (hpitch : s.lt.pitch = some pitch)
    (hgrid : s.lt.nextGrid = some g) (h : ¬ (g ≤ c ∧ s.mayTrigger = true)) :
    (s.gridDecide c).sa = s.sa ∧ (s.gridDecide c).lt.spacingExpiry = s.lt.spacingExpiry ∧
    (s.gridDecide c).hl = s.hl := by
  by_cases hc : g ≤ c
  · have hmay : ¬ s.mayTrigger = true := fun hmay => h ⟨hc, hmay⟩
    rw [State.gridDecide_reached hpitch hgrid hc, if_neg hmay]
    exact ⟨rfl, rfl, rfl⟩
  · rw [State.gridDecide_below hpitch hgrid (Nat.lt_of_not_le hc)]
    exact ⟨rfl, rfl, rfl⟩

theorem State.gridDecide_nextGrid {s : State} {pitch g : Nat} (hpitch : s.lt.pitch = some pitch)
    (hgrid : s.lt.nextGrid = some g) (c : Nat) :
    (s.gridDecide c).lt.nextGrid = if g ≤ c then gridAbove pitch c else some g := by
  by_cases hc : g ≤ c
  · rw [State.gridDecide_reached hpitch hgrid hc, if_pos hc]
    rfl
  · rw [State.gridDecide_below hpitch hgrid (Nat.lt_of_not_le hc), if_neg hc, hgrid]

/-! ### The limit (R29) -/

theorem State.noteLimit_lt (s : State) (h : s.lt.limit = false) :
    s.noteLimit.lt = { s.lt with limit := decide (s.lt.live = maxCoord) } := by
  unfold State.noteLimit
  split
  · simp [State.raise, *]
  · simp only [*, decide_false]
    rw [← h]

theorem State.noteLimit_blocks (s : State) : s.noteLimit.hl = s.hl ∧ s.noteLimit.sa = s.sa ∧ s.noteLimit.ge = s.ge ∧
    s.noteLimit.pt = s.pt ∧ s.noteLimit.cc = s.cc ∧ s.noteLimit.lp = s.lp ∧ s.noteLimit.inReset = s.inReset := by
  unfold State.noteLimit
  split <;> exact ⟨rfl, rfl, rfl, rfl, rfl, rfl, rfl⟩

theorem State.noteLimit_flag {s : State} (h : s.lt.live = maxCoord) :
    FlagSet.has s.noteLimit.au.flags .coordLimit = true := by
  unfold State.noteLimit
  rw [if_pos h]
  exact State.raise_has _ _

/-! ### The whole of a change of the live coordinate -/

/-- The state in which a changed live coordinate has been presented, before what follows from it (R30). -/
def State.gridDone (s : State) : State :=
  let u := s.noteLimit.gridDecide s.lt.live
  u.setPt { u.pt with presented := s.lt.live }

theorem State.liveChanged_sectionFrame (s : State) : SectionFrame s.gridDone s.liveChanged := by
  rw [s.liveChanged_eq]
  exact (State.present_frame _ _).section.trans (State.cascade_frame _)

theorem State.liveChanged_retireKept (s : State) : RetireKept s.gridDone s.liveChanged := by
  rw [s.liveChanged_eq]
  exact (State.advance_retireKept _).trans (State.cascade_retireKept _)

theorem State.liveChanged_lp (s : State) : s.liveChanged.lp = s.lp ∧ s.liveChanged.inReset = s.inReset := by
  obtain ⟨-, -, -, -, -, hlp, hreset⟩ := s.noteLimit_blocks
  obtain ⟨hgridReset, -, -, -, hgridLp⟩ := s.noteLimit.gridDecide_blocks s.lt.live
  exact ⟨s.liveChanged_sectionFrame.lp.trans (hgridLp.trans hlp),
    s.liveChanged_sectionFrame.inReset.trans (hgridReset.trans hreset)⟩

theorem State.liveChanged_flag {s : State} (h : s.lt.live = maxCoord) :
    FlagSet.has s.liveChanged.au.flags .coordLimit = true := by
  obtain ⟨-, -, -, hau, -⟩ := s.noteLimit.gridDecide_blocks s.lt.live
  refine s.liveChanged_retireKept.flags _ ?_
  change FlagSet.has (s.noteLimit.gridDecide s.lt.live).au.flags .coordLimit = true
  rw [hau]
  exact State.noteLimit_flag h

/-- The Length Tracker after a change of the live coordinate (R29, R38). -/
theorem State.liveChanged_tracker (s : State) (h : s.lt.limit = false) : s.liveChanged.lt =
    { s.lt with
      limit := decide (s.lt.live = maxCoord), nextGrid := s.gridDone.lt.nextGrid
      spacingExpiry := s.gridDone.lt.spacingExpiry } := by
  rw [s.liveChanged_lt, State.gridDecide_lt, s.noteLimit_lt h]
  rfl

/-- When WAITING slots are all that is pending, none retires (R59). -/
theorem State.liveChanged_waiting {s : State} (h : ∀ p ∈ s.gridDone.sa.pend, p.contrib = none) :
    s.liveChanged.sa.pend = s.gridDone.sa.pend := by
  have hframe := State.present_frame (s.noteLimit.gridDecide s.lt.live) s.lt.live
  have hsa : ((s.noteLimit.gridDecide s.lt.live).present s.lt.live).sa = s.gridDone.sa := hframe.sa
  rw [s.liveChanged_eq, State.cascade_of_waiting (by rw [hsa]; exact h), hsa]

/-- A single slot that is COMPLETE without a contributing head retires (R58, R59, R61). -/
theorem State.liveChanged_empty {s : State} {p : PendSlot} (hpend : s.gridDone.sa.pend = [p])
    (hc : p.contrib = some 0) :
    s.liveChanged.sa.pend = [] ∧ s.liveChanged.pt.awaited = s.gridDone.pt.awaited ++ [p.coord] ∧
    s.liveChanged.ge.handed = s.gridDone.ge.handed ++ [{
      seq := p.seq, coord := p.coord, temp := s.gridDone.sa.heldTemp, held := true, contrib := 0
      heads := ⟨none, none, none, none⟩ }] := by
  have hframe : PieceFrame s.gridDone ((s.noteLimit.gridDecide s.lt.live).present s.lt.live) := State.present_frame _ _
  have hsingle : ((s.noteLimit.gridDecide s.lt.live).present s.lt.live).sa.pend = [p] := hframe.sa ▸ hpend
  rw [s.liveChanged_eq, State.cascade_single hsingle hc, State.retire_empty, hframe.ge, hframe.sa]
  obtain ⟨hlen, hawaited, -⟩ := State.retire_hands ((s.noteLimit.gridDecide s.lt.live).present s.lt.live) p 0
  rw [hsingle] at hlen
  exact ⟨List.length_eq_zero_iff.1 hlen, hframe.awaited ▸ hawaited, rfl⟩

/-! ### The trigger -/

section
variable {s : State} {pitch g : Nat} (hpitch : s.lt.pitch = some pitch) (hgrid : s.lt.nextGrid = some g)

/-- A reached grid point is issued (R39), in the terms of the state before the change. -/
def State.issues (s : State) (g : Nat) : Prop :=
  g ≤ s.lt.live ∧ (s.cc.engine = .running ∨ s.cc.engine = .halting) ∧ s.lt.live ≠ maxCoord ∧
    s.lt.spacingExpiry = none ∧ s.sa.pend.length < 4

theorem State.issues_iff (hlimit : s.lt.limit = false) :
    s.issues g ↔ g ≤ s.lt.live ∧ s.noteLimit.mayTrigger = true := by
  obtain ⟨-, hsa, -, -, hcc, -, -⟩ := s.noteLimit_blocks
  rw [State.mayTrigger_iff, hsa, hcc, s.noteLimit_lt hlimit]
  have hlive : LengthTracker.live { s.lt with limit := decide (s.lt.live = maxCoord) } = s.lt.live := rfl
  simp only [hlive, decide_eq_false_iff_not, State.issues]
  tauto

include hpitch hgrid

theorem State.gridDone_nextGrid (hlimit : s.lt.limit = false) :
    s.gridDone.lt.nextGrid = if g ≤ s.lt.live then gridAbove pitch s.lt.live else some g := by
  have hlt := s.noteLimit_lt hlimit
  exact State.gridDecide_nextGrid (by rw [hlt]; exact hpitch) (by rw [hlt]; exact hgrid) _

/-- What a trigger issues (R40). -/
theorem State.gridDone_issued (hlimit : s.lt.limit = false) (h : s.issues g) :
    s.gridDone.sa.seq = s.sa.seq + 1 ∧ s.gridDone.lt.spacingExpiry = s.lt.spacing.map (s.lt.time + ·) ∧
    (∀ h, (s.gridDone.head h).trigOut = if (s.head h).status ≠ .disabled then
        some { seq := s.sa.seq, coord := s.lt.live / pitch * pitch } else (s.head h).trigOut) ∧
    s.gridDone.sa.heldTemp = s.sa.heldTemp ∧
    s.gridDone.sa.pend = s.sa.pend ++ [s.noteLimit.testSlot
      (newSlot s.sa.seq (s.lt.live / pitch * pitch) (s.lt.time + s.hl.timeout * 1000))] := by
  obtain ⟨hc, hmay⟩ := (State.issues_iff hlimit).1 h
  obtain ⟨hhl, hsa, -⟩ := s.noteLimit_blocks
  have hlt := s.noteLimit_lt hlimit
  have hgridDecide := State.gridDecide_reached (s := s.noteLimit) (by rw [hlt]; exact hpitch)
    (by rw [hlt]; exact hgrid) hc
  rw [if_pos hmay] at hgridDecide
  have hdone : s.gridDone.sa = (s.noteLimit.issueTrigger (s.lt.live / pitch * pitch)).sa ∧
      s.gridDone.lt.spacingExpiry = (s.noteLimit.issueTrigger (s.lt.live / pitch * pitch)).lt.spacingExpiry ∧
      s.gridDone.hl = (s.noteLimit.issueTrigger (s.lt.live / pitch * pitch)).hl := by
    simp only [State.gridDone, hgridDecide]
    exact ⟨rfl, rfl, rfl⟩
  obtain ⟨hdoneSa, hdoneExpiry, hdoneHl⟩ := hdone
  refine ⟨?_, ?_, fun k => ?_, ?_, ?_⟩
  · rw [hdoneSa, ← hsa]
    rfl
  · rw [hdoneExpiry]
    change s.noteLimit.lt.spacing.map (s.noteLimit.lt.time + ·) = _
    rw [hlt]
  · have hk := s.noteLimit.issueTrigger_trigOut (s.lt.live / pitch * pitch) k
    simp only [State.head, hhl, hsa] at hk
    rw [State.head, hdoneHl, hk]
    rfl
  · rw [hdoneSa, ← hsa]
    rfl
  · rw [hdoneSa, State.issueTrigger_pend, hsa, hhl, hlt]

/-- Without a trigger no sequence number is used, the spacing timer runs on and no trigger frame is sent. -/
theorem State.gridDone_unissued (hlimit : s.lt.limit = false) (h : ¬ s.issues g) :
    s.gridDone.sa.seq = s.sa.seq ∧ s.gridDone.lt.spacingExpiry = s.lt.spacingExpiry ∧
    ∀ h, (s.gridDone.head h).trigOut = (s.head h).trigOut := by
  rw [State.issues_iff hlimit] at h
  obtain ⟨hhl, hsa, -⟩ := s.noteLimit_blocks
  have hlt := s.noteLimit_lt hlimit
  obtain ⟨hgridSa, hgridExpiry, hgridHl⟩ := State.gridDecide_unissued (s := s.noteLimit) (by rw [hlt]; exact hpitch)
    (by rw [hlt]; exact hgrid) h
  refine ⟨?_, ?_, fun k => ?_⟩
  · rw [← hsa, ← hgridSa]
    rfl
  · exact hgridExpiry.trans (by rw [hlt])
  · rw [State.head, State.head, ← hhl, ← hgridHl]
    rfl

/-! What a change of the live coordinate leaves of the trigger. -/

theorem State.liveChanged_nextGrid (hlimit : s.lt.limit = false) :
    s.liveChanged.lt.nextGrid = if g ≤ s.lt.live then gridAbove pitch s.lt.live else some g := by
  rw [s.liveChanged_tracker hlimit]
  exact State.gridDone_nextGrid hpitch hgrid hlimit

theorem State.liveChanged_issued (hlimit : s.lt.limit = false) (h : s.issues g) :
    s.liveChanged.sa.seq = s.sa.seq + 1 ∧ s.liveChanged.lt.spacingExpiry = s.lt.spacing.map (s.lt.time + ·) ∧
    ∀ h, (s.liveChanged.head h).trigOut = if (s.head h).status ≠ .disabled then
        some { seq := s.sa.seq, coord := s.lt.live / pitch * pitch } else (s.head h).trigOut := by
  obtain ⟨hseq, hexpiry, htrig, -, -⟩ := State.gridDone_issued hpitch hgrid hlimit h
  refine ⟨s.liveChanged_sectionFrame.seq.trans hseq, ?_, fun k => (s.liveChanged_retireKept.trigOut k).trans (htrig k)⟩
  rw [s.liveChanged_tracker hlimit]
  exact hexpiry

theorem State.liveChanged_issued_waiting (hlimit : s.lt.limit = false) (h : s.issues g)
    (hactive : ∃ h, (s.head h).status = .active) (hwait : ∀ q ∈ s.sa.pend, q.contrib = none) :
    s.liveChanged.sa.pend = s.sa.pend ++
      [newSlot s.sa.seq (s.lt.live / pitch * pitch) (s.lt.time + s.hl.timeout * 1000)] := by
  obtain ⟨-, -, -, -, hpend⟩ := State.gridDone_issued hpitch hgrid hlimit h
  obtain ⟨hhl, -⟩ := s.noteLimit_blocks
  rw [State.testSlot_newSlot_waiting (by simpa only [State.head, hhl] using hactive)] at hpend
  refine (State.liveChanged_waiting fun q hq => ?_).trans hpend
  rw [hpend, List.mem_append, List.mem_singleton] at hq
  rcases hq with hq | rfl
  · exact hwait q hq
  · rfl

theorem State.liveChanged_issued_empty (hlimit : s.lt.limit = false) (h : s.issues g)
    (hidle : ∀ h, (s.head h).status ≠ .active) (hnone : s.sa.pend = []) :
    s.liveChanged.sa.pend = [] ∧ s.liveChanged.pt.awaited = s.pt.awaited ++ [s.lt.live / pitch * pitch] ∧
    s.liveChanged.ge.handed = s.ge.handed ++ [{
      seq := s.sa.seq, coord := s.lt.live / pitch * pitch, temp := s.sa.heldTemp, held := true, contrib := 0
      heads := ⟨none, none, none, none⟩ }] := by
  obtain ⟨-, -, -, htemp, hpend⟩ := State.gridDone_issued hpitch hgrid hlimit h
  obtain ⟨hhl, -, hge, hpt, -⟩ := s.noteLimit_blocks
  obtain ⟨-, hgridGe, hgridPt, -, -⟩ := s.noteLimit.gridDecide_blocks s.lt.live
  rw [State.testSlot_newSlot_complete (by simpa only [State.head, hhl] using hidle), hnone, List.nil_append] at hpend
  obtain ⟨hgone, hawaited, hhanded⟩ := State.liveChanged_empty hpend rfl
  have hdonePt : s.gridDone.pt.awaited = s.pt.awaited := by rw [← hpt, ← hgridPt]; rfl
  have hdoneGe : s.gridDone.ge = s.ge := hgridGe.trans hge
  rw [hdonePt] at hawaited
  rw [hdoneGe, htemp] at hhanded
  exact ⟨hgone, hawaited, hhanded⟩

theorem State.liveChanged_unissued (hlimit : s.lt.limit = false) (h : ¬ s.issues g) :
    s.liveChanged.sa.seq = s.sa.seq ∧ s.liveChanged.lt.spacingExpiry = s.lt.spacingExpiry ∧
    ∀ h, (s.liveChanged.head h).trigOut = (s.head h).trigOut := by
  obtain ⟨hseq, hexpiry, htrig⟩ := State.gridDone_unissued hpitch hgrid hlimit h
  refine ⟨s.liveChanged_sectionFrame.seq.trans hseq, ?_, fun k => (s.liveChanged_retireKept.trigOut k).trans (htrig k)⟩
  rw [s.liveChanged_tracker hlimit]
  exact hexpiry

end

theorem State.transmit_head (s : State) (h : Fin 4) : s.transmit.head h = s.head h := by
  rw [State.head, State.head, s.transmit_hl]

/-- Settles O24: the count is the scale's, and the trigger is the grid's decision behind the limit. -/
theorem wheelCountMovesTheCoordinate : Obligations.WheelCountMovesTheCoordinate := by
  intro s a b hs hdebt hlimit hpair acc c hmoved
  let u := (s.phased a b).counted
  have hstep : wheelStep s.lt.geom.dir s.lt.phA s.lt.phB a b = .forward := by
    have h := wheelStep_nextPair s.lt.geom.dir s.lt.phA s.lt.phB
    rw [show nextPair s.lt.geom.dir s.lt.phA s.lt.phB = (a, b) from hpair] at h
    exact h
  have hwheel : s.wheel a b = u.liveChanged :=
    (State.wheel_forward hstep).trans ((State.forwardCount_eq (s.phased a b) hdebt hlimit).trans (if_neg hmoved))
  have hulimit : u.lt.limit = false := hlimit
  obtain ⟨hlp, hreset⟩ := u.liveChanged_lp
  refine ⟨_, exec_wheelCount hs hwheel hreset hlp, ?_⟩
  simp only [State.transmit_lt, State.transmit_pt, State.transmit_sa, State.transmit_ge, State.transmit_flags,
    State.transmit_head]
  have hlt : u.liveChanged.lt = { s.lt with
      phA := a, phB := b, acc := acc, limit := decide (c = maxCoord), nextGrid := u.gridDone.lt.nextGrid
      spacingExpiry := u.gridDone.lt.spacingExpiry } := u.liveChanged_tracker hulimit
  refine ⟨by rw [hlt], by rw [hlt], by rw [hlt], by rw [hlt]; exact hdebt, by rw [hlt], by rw [hlt], by rw [hlt],
    by rw [hlt], by rw [hlt], by rw [hlt], by rw [hlt], u.liveChanged_sectionFrame.presented,
    fun hc => State.liveChanged_flag hc, fun pitch g hpitch hgrid => ?_⟩
  exact ⟨State.liveChanged_nextGrid (s := u) hpitch hgrid hulimit,
    State.liveChanged_issued (s := u) hpitch hgrid hulimit,
    State.liveChanged_issued_waiting (s := u) hpitch hgrid hulimit,
    State.liveChanged_issued_empty (s := u) hpitch hgrid hulimit,
    State.liveChanged_unissued (s := u) hpitch hgrid hulimit⟩

end Sys2Proof.Machine
end

section
/-! The passing of time (R31): the events that are due, one idle microsecond, the sample tick, and the spacing timer
(R41). -/

namespace Sys2Proof.Machine

/-! ### What is due -/

theorem earliest_mem : ∀ {l : List (Nat × Due)} {x : Nat × Due}, earliest l = some x → x ∈ l
  | y :: l, x, h => by
    unfold earliest at h
    split at h
    · cases h
      exact List.mem_cons_self
    · rename_i z hz
      split at h
      · cases h
        exact List.mem_cons_of_mem _ (earliest_mem hz)
      · cases h
        exact List.mem_cons_self

theorem State.nextDue_mem {s : State} {limit : Nat} {d : Nat × Due} (h : s.nextDue limit = some d) :
    d ∈ s.dueList ∧ d.1 < limit := by
  simpa using List.mem_filter.1 (earliest_mem h)

theorem State.nextDue_none {s : State} {limit : Nat} (h : ∀ d ∈ s.dueList, limit ≤ d.1) : s.nextDue limit = none := by
  have hfilter : s.dueList.filter (fun d => decide (d.1 < limit)) = [] :=
    List.filter_eq_nil_iff.2 fun d hd => by simpa using h d hd
  rw [State.nextDue, hfilter]
  rfl

/-- What is due beside the sample tick. -/
def State.otherDue (s : State) : List (Nat × Due) :=
  (s.lt.spacingExpiry.toList.map fun t => (t, .spacing)) ++ s.waitingSlots ++
    (s.cc.compileBy.toList.map fun t => (t, .compilation))

theorem State.dueList_eq (s : State) : s.dueList = (s.lt.lastTick + 1000, .sample) :: s.otherDue := by
  simp [State.dueList, State.otherDue]

theorem State.otherDue_ne_sample {s : State} {d : Nat × Due} (h : d ∈ s.otherDue) : d.2 ≠ .sample := by
  simp only [State.otherDue, State.waitingSlots, List.mem_append, List.mem_map] at h
  rcases h with (⟨t, -, rfl⟩ | ⟨p, -, rfl⟩) | ⟨t, -, rfl⟩ <;> simp

/-- The sample tick is due at the next whole multiple of 1,000 µs (R31). -/
theorem State.due_sample {s : State} {t : Nat} (h : (t, Due.sample) ∈ s.dueList) : t = s.lt.lastTick + 1000 := by
  rw [s.dueList_eq, List.mem_cons] at h
  rcases h with h | h
  · exact congrArg Prod.fst h
  · exact absurd rfl (State.otherDue_ne_sample h)

/-- The spacing timer is due at its expiry (R41). -/
theorem State.due_spacing {s : State} {t : Nat} (h : (t, Due.spacing) ∈ s.dueList) : s.lt.spacingExpiry = some t := by
  simpa [State.dueList, State.waitingSlots] using h

/-- The sample tick is next when it alone comes before the limit. -/
theorem State.nextDue_sample {s : State} {limit : Nat} (h : s.lt.lastTick + 1000 < limit)
    (hother : ∀ d ∈ s.otherDue, limit ≤ d.1) : s.nextDue limit = some (s.lt.lastTick + 1000, .sample) := by
  have hfilter : s.otherDue.filter (fun d => decide (d.1 < limit)) = [] :=
    List.filter_eq_nil_iff.2 fun d hd => by simpa using hother d hd
  rw [State.nextDue, s.dueList_eq, List.filter_cons_of_pos (by simpa using h), hfilter]
  rfl

theorem State.runTimers_none {s : State} {limit : Nat} (h : s.nextDue limit = none) (n : Nat) :
    State.runTimers n s limit = s := by
  cases n with
  | zero => rfl
  | succ n => simp only [State.runTimers, h]

theorem State.runTimers_some {s : State} {limit t : Nat} {d : Due} (h : s.nextDue limit = some (t, d)) (n : Nat) :
    State.runTimers (n + 1) s limit = State.runTimers n (s.fire t d).settle limit := by
  simp only [State.runTimers, h]

/-! ### One idle microsecond -/

theorem step_idle {s : State} (h : s.pending = []) : step s = .next s.tick := by
  unfold step
  rw [h]

theorem State.tick_running {s : State} (h : s.inReset = false) :
    s.tick = (s.upTo (s.lt.time + 2)).timeTo (s.lt.time + 1) := if_neg (Bool.eq_false_iff.1 h)

theorem State.timeTo_later {s : State} {t : Nat} (h : s.lt.time ≤ t) :
    s.timeTo t = s.setLt { s.lt with time := t } := by
  rw [State.timeTo, Nat.max_eq_right h]

/-- The sample tick at a time that the time base has not passed (R31). -/
theorem State.fire_sample {s : State} {t : Nat} (h : s.lt.time ≤ t) : s.fire t .sample =
    s.setLt { s.lt with time := t, lastTick := t, history := s.lt.live :: s.lt.history.take 63 } := by
  simp only [State.fire, State.timeTo_later h]
  rfl

/-- Settles O2: what is due before the next microsecond, and at it the sample tick. -/
theorem idleStepPassesOneMicrosecond : Obligations.IdleStepPassesOneMicrosecond := by
  intro s hpending
  rw [step_idle hpending]
  refine ⟨fun hreset => ?_, fun hreset hdue => ?_, fun hreset hline htick hdue => ?_⟩
  · rw [State.tick, if_pos hreset]
  · rw [State.tick_running hreset, State.upTo, State.runTimers_none (State.nextDue_none hdue),
      State.timeTo_later (Nat.le_succ _)]
  · have hother : ∀ d ∈ s.otherDue, s.lt.time + 2 ≤ d.1 := fun d hd =>
      hdue d (s.dueList_eq ▸ List.mem_cons_of_mem _ hd) (State.otherDue_ne_sample hd)
    have hnext := State.nextDue_sample (s := s) (limit := s.lt.time + 2) (by omega) hother
    have hfire := State.fire_sample (s := s) (t := s.lt.time + 1) (Nat.le_succ _)
    have hafter : (s.fire (s.lt.time + 1) .sample).nextDue (s.lt.time + 2) = none := by
      refine State.nextDue_none fun d hd => ?_
      rw [State.dueList_eq, List.mem_cons, hfire] at hd
      rcases hd with rfl | hd
      · change s.lt.time + 2 ≤ s.lt.time + 1 + 1000
        omega
      · exact hother d hd
    have hsettle : (s.fire (s.lt.time + 1) .sample).settle = s.fire (s.lt.time + 1) .sample :=
      State.settle_sound _ hline
    have hbound : s.timerBound (s.lt.time + 2) = (s.timerBound (s.lt.time + 2) - 1) + 1 := rfl
    rw [htick] at hnext
    rw [State.tick_running hreset, State.upTo, hbound, State.runTimers_some hnext, hsettle, State.runTimers_none hafter,
      hfire]
    refine congrArg Host.Outcome.next ((State.timeTo_later ?_).trans rfl)
    exact le_rfl

/-! ### What the events before a time-driven row leave (log 3) -/

theorem State.transmit_slot {s : State} (h : s.lp.slot = none) : s.transmit.lp.slot = none := by
  cases htx : s.lp.tx with
  | some f => rwa [s.transmit_busy f htx]
  | none =>
    simp only [State.transmit, htx, h]
    split
    · rename_i hslot
      cases hslot
    · exact h
    · rfl
    · exact h

theorem State.Drained.transmit {s : State} (hs : s.Drained) : s.transmit.Drained := by
  obtain ⟨hreset, hqueue, hslot⟩ := hs
  cases htx : s.lp.tx with
  | some f =>
    rw [s.transmit_busy f htx]
    exact ⟨hreset, hqueue, hslot⟩
  | none =>
    exact ⟨s.transmit_inReset.trans hreset, fun _ => s.transmit_queue.trans (hqueue (hslot htx)),
      fun _ => State.transmit_slot (hslot htx)⟩

/-- What the events before `limit` leave: the Line Port drained, the count, the next sequence number, the trigger
frames, a later time base, the history before a sample tick is due, and the spacing timer before it expires. -/
structure TimersKept (limit : Nat) (s t : State) : Prop where
  drained : t.Drained
  acc : t.lt.acc = s.lt.acc
  debt : t.lt.debt = s.lt.debt
  seq : t.sa.seq = s.sa.seq
  trigOut : ∀ h, (t.head h).trigOut = (s.head h).trigOut
  time : max t.lt.time limit = max s.lt.time limit
  history : limit ≤ s.lt.lastTick + 1000 → t.lt.lastTick = s.lt.lastTick ∧ t.lt.history = s.lt.history
  spacing : (∀ e, s.lt.spacingExpiry = some e → limit ≤ e) → t.lt.spacingExpiry = s.lt.spacingExpiry

theorem TimersKept.refl {limit : Nat} {s : State} (hs : s.Drained) : TimersKept limit s s :=
  ⟨hs, rfl, rfl, rfl, fun _ => rfl, rfl, fun _ => ⟨rfl, rfl⟩, fun _ => rfl⟩

theorem TimersKept.trans {limit : Nat} {s t u : State} (h : TimersKept limit s t) (k : TimersKept limit t u) :
    TimersKept limit s u where
  drained := k.drained
  acc := k.acc.trans h.acc
  debt := k.debt.trans h.debt
  seq := k.seq.trans h.seq
  trigOut x := (k.trigOut x).trans (h.trigOut x)
  time := k.time.trans h.time
  history hl := by
    obtain ⟨htick, hhist⟩ := h.history hl
    obtain ⟨htick', hhist'⟩ := k.history (htick ▸ hl)
    exact ⟨htick'.trans htick, hhist'.trans hhist⟩
  spacing hl := by
    have hst := h.spacing hl
    exact (k.spacing (hst ▸ hl)).trans hst

theorem TimersKept.transmit {limit : Nat} {s t : State} (h : TimersKept limit s t) : TimersKept limit s t.transmit where
  drained := h.drained.transmit
  acc := t.transmit_lt ▸ h.acc
  debt := t.transmit_lt ▸ h.debt
  seq := t.transmit_sa ▸ h.seq
  trigOut x := t.transmit_head x ▸ h.trigOut x
  time := t.transmit_lt ▸ h.time
  history := t.transmit_lt ▸ h.history
  spacing := t.transmit_lt ▸ h.spacing

/-- What the expiry of a slot leaves (R58). -/
theorem State.expireSlot_sectionFrame (s : State) (n : Seq) : SectionFrame s (s.expireSlot n) := by
  refine SectionFrame.trans ?_ (State.cascade_frame _)
  exact s.setPend_frame _ rfl rfl

theorem State.expireSlot_retireKept (s : State) (n : Seq) : RetireKept s (s.expireSlot n) :=
  RetireKept.after (State.cascade_retireKept _) rfl rfl

/-- What the end of a compilation leaves (R137). -/
theorem State.compilationDone_blocks (s : State) :
    s.compilationDone.inReset = s.inReset ∧ s.compilationDone.lp = s.lp ∧ s.compilationDone.hl = s.hl ∧
    s.compilationDone.sa = s.sa ∧ ∃ pitch spacing nextGrid, s.compilationDone.lt =
      { s.lt with pitch := pitch, spacing := spacing, nextGrid := nextGrid } := by
  unfold State.compilationDone
  split
  · have h (u : State) : PieceFrame u ((u.openPiece 0 false).advance.raise .switchDone) :=
      ((u.openPiece_frame _ _).trans (State.advance_frame _)).trans (State.raise_frame _ _)
    exact ⟨(h _).inReset, (h _).lp, (h _).hl, (h _).sa, _, _, _, (h _).lt⟩
  · exact ⟨rfl, rfl, rfl, rfl, _, _, _, rfl⟩

/-- The time base at a time before the limit. -/
theorem TimersKept.timeTo {limit t : Nat} {s : State} (hs : s.Drained) (ht : t < limit) :
    TimersKept limit s (s.timeTo t) where
  drained := hs.of_lp rfl rfl
  acc := rfl
  debt := rfl
  seq := rfl
  trigOut _ := rfl
  time := by
    change max (max s.lt.time t) limit = max s.lt.time limit
    omega
  history _ := ⟨rfl, rfl⟩
  spacing _ := rfl

theorem TimersKept.fire {limit t : Nat} {d : Due} {s : State} (hs : s.Drained) (hdue : (t, d) ∈ s.dueList)
    (ht : t < limit) : TimersKept limit s (s.fire t d) := by
  have htime := TimersKept.timeTo hs ht
  cases d with
  | sample =>
    have hlate : ¬ limit ≤ s.lt.lastTick + 1000 := State.due_sample hdue ▸ Nat.not_le.2 ht
    exact ⟨htime.drained.of_lp rfl rfl, rfl, rfl, rfl, fun _ => rfl, htime.time, fun h => absurd h hlate, fun _ => rfl⟩
  | spacing =>
    have hearly := State.due_spacing hdue
    exact ⟨htime.drained.of_lp rfl rfl, rfl, rfl, rfl, fun _ => rfl, htime.time, fun _ => ⟨rfl, rfl⟩,
      fun h => absurd (h t hearly) (Nat.not_le.2 ht)⟩
  | timeout seq =>
    have hframe := (s.timeTo t).expireSlot_sectionFrame seq
    have hlt : (s.fire t (.timeout seq)).lt = (s.timeTo t).lt := hframe.lt
    exact htime.trans ⟨htime.drained.of_lp hframe.inReset hframe.lp, by rw [hlt], by rw [hlt], hframe.seq,
      (State.expireSlot_retireKept _ seq).trigOut, by rw [hlt], fun _ => by rw [hlt]; exact ⟨rfl, rfl⟩,
      fun _ => by rw [hlt]⟩
  | compilation =>
    obtain ⟨hreset, hlp, hhl, hsa, pitch, spacing, nextGrid, hdone⟩ := (s.timeTo t).compilationDone_blocks
    have hlt : (s.fire t .compilation).lt =
        { (s.timeTo t).lt with pitch := pitch, spacing := spacing, nextGrid := nextGrid } := hdone
    have htrig (h : Fin 4) : (s.fire t .compilation).head h = (s.timeTo t).head h := by
      rw [State.head, State.head, ← hhl]
      rfl
    exact htime.trans ⟨htime.drained.of_lp hreset hlp, by rw [hlt], by rw [hlt], congrArg Assembler.seq hsa,
      fun h => by rw [htrig], by rw [hlt], fun _ => by rw [hlt]; exact ⟨rfl, rfl⟩, fun _ => by rw [hlt]⟩

theorem TimersKept.runTimers {limit : Nat} : ∀ (n : Nat) {s : State}, s.Drained →
    TimersKept limit s (State.runTimers n s limit)
  | 0, _, hs => .refl hs
  | n + 1, s, hs => by
    cases hnext : s.nextDue limit with
    | none =>
      rw [State.runTimers_none hnext]
      exact .refl hs
    | some d =>
      obtain ⟨t, d⟩ := d
      obtain ⟨hdue, ht⟩ := State.nextDue_mem hnext
      have hfire := TimersKept.fire hs hdue ht
      rw [State.runTimers_some hnext, hfire.drained.settle]
      exact hfire.transmit.trans (TimersKept.runTimers n hfire.transmit.drained)

theorem TimersKept.upTo {s : State} (hs : s.Drained) (limit : Nat) : TimersKept limit s (s.upTo limit) :=
  TimersKept.runTimers _ hs

theorem State.upTo_none {s : State} {limit : Nat} (h : s.nextDue limit = none) : s.upTo limit = s :=
  State.runTimers_none h _

/-! ### The rows of the sample tick and of the spacing timer (R31, R41) -/

theorem State.fire_sample_max (s : State) (t : Nat) : s.fire t .sample =
    s.setLt { s.lt with
      time := max s.lt.time t, lastTick := t, history := s.lt.live :: s.lt.history.take 63 } := rfl

theorem State.fire_spacing (s : State) (t : Nat) : s.fire t .spacing =
    s.setLt { s.lt with time := max s.lt.time t, spacingExpiry := none } := rfl

section
variable {s : State} (hs : s.Drained)
include hs

theorem State.Drained.fire_sample (t : Nat) : (s.fire t .sample).Drained := hs.of_lp rfl rfl

theorem State.Drained.fire_spacing (t : Nat) : (s.fire t .spacing).Drained := hs.of_lp rfl rfl

/-- SAMPLE_TICK is the tick behind what comes before it. -/
theorem exec_sampleTick : exec .sampleTick s =
    .next ((s.upTo (s.lt.lastTick + 1000)).fire (s.lt.lastTick + 1000) .sample).transmit := by
  have hrow : s.sampleTick = (s.upTo (s.lt.lastTick + 1000)).fire (s.lt.lastTick + 1000) .sample := by
    rw [State.sampleTick, State.driven]
  rw [← hrow]
  exact event_of_drained (f := State.sampleTick) hs.1 (hrow ▸ (TimersKept.upTo hs _).drained.fire_sample _)

/-- SPACING_TIMER_EXPIRY is the expiry behind what comes before it. -/
theorem exec_spacingTimerExpiry {e : Nat} (he : s.lt.spacingExpiry = some e) :
    exec .spacingTimerExpiry s = .next ((s.upTo e).fire e .spacing).transmit := by
  have hrow : s.spacingRow = (s.upTo e).fire e .spacing := by simp only [State.spacingRow, he, State.driven]
  rw [← hrow]
  exact event_of_drained (f := State.spacingRow) hs.1 (hrow ▸ (TimersKept.upTo hs e).drained.fire_spacing e)

theorem exec_spacingTimerExpiry_stopped (he : s.lt.spacingExpiry = none) :
    exec .spacingTimerExpiry s = .next s.transmit := by
  have hrow : s.spacingRow = s := by simp only [State.spacingRow, he]
  have hrun := event_of_drained (f := State.spacingRow) hs.1 (by rw [hrow]; exact hs)
  rw [hrow] at hrun
  exact hrun

end

/-- Settles O25: each row is its event behind those due before it. -/
theorem tickAndSpacingTimer : Obligations.TickAndSpacingTimer := by
  intro s hs
  refine ⟨⟨_, exec_sampleTick hs, ?_⟩, fun hnone => ?_, fun e he => ⟨⟨_, exec_spacingTimerExpiry hs he, ?_⟩,
    fun hnone => ?_⟩, exec_spacingTimerExpiry_stopped hs⟩
  · have hkept := TimersKept.upTo hs (s.lt.lastTick + 1000)
    obtain ⟨-, hhist⟩ := hkept.history le_rfl
    have hlive : (s.upTo (s.lt.lastTick + 1000)).lt.live = s.lt.live := by
      rw [LengthTracker.live, LengthTracker.live, hkept.acc]
    rw [State.transmit_lt, State.fire_sample_max, State.setLt_lt, hlive, hhist]
    dsimp only
    exact ⟨rfl, rfl, hkept.time, hkept.acc, hkept.debt⟩
  · rw [exec_sampleTick hs, State.upTo_none hnone, State.fire_sample_max]
  · have hkept := TimersKept.upTo hs e
    simp only [State.transmit_lt, State.transmit_sa, State.transmit_head, State.fire_spacing]
    exact ⟨rfl, hkept.time, hkept.seq, hkept.acc, hkept.trigOut⟩
  · rw [exec_spacingTimerExpiry hs he, State.upTo_none hnone, State.fire_spacing]

end Sys2Proof.Machine
end

section
/-! The settings of the head links (R51 to R54): which heads are enabled, and the calibration of one. -/

namespace Sys2Proof.Machine

/-! ### What the replies carry (R54) -/

theorem Head.enabled_eq (x : Head) : x.enabled = decide (x.status ≠ .disabled) := by
  rw [Bool.eq_iff_iff]
  simp [Head.enabled]

theorem State.headItems_eq (s : State) : s.headItems = Rule.headItems s := by
  simp only [State.headItems, Rule.headItems, Head.record, Head.enabled_eq]

/-- A refused command leaves the part and is answered with the head items. -/
theorem State.refuseHeads_eq (s : State) (code : ResultCode) (detail : Nat) :
    s.refuseHeads code detail = ⟨s, code, detail, .heads (Rule.headItems s)⟩ := by
  rw [State.refuseHeads, s.headItems_eq]

theorem State.taken_headItems (s : State) :
    s.taken .ok (.heads s.headItems) = ⟨s, .ok, 0, .heads (Rule.headItems s)⟩ := by
  rw [State.taken, s.headItems_eq]

/-! ### SET_HEAD_CAL (R53) -/

/-- A range that is symmetric about 0 bounds the magnitude. -/
theorem intIn_symm_eq_false {n : Nat} {v : Int} : intIn (-n) n v = false ↔ n < v.natAbs := by
  rw [intIn, decide_eq_false_iff_not]
  omega

/-- The number of the lowest-numbered field out of range, 0 when all are in range (R53). -/
def headCalFaultCode (head : Byte) (ox oy scale : Int) : Nat :=
  if 3 < head.toNat then 1 else if 1000000 < ox.natAbs then 2 else if 1000000 < oy.natAbs then 3
  else if 2000 < scale.natAbs then 4 else 0

theorem headCalFault_eq (head : Byte) (ox oy scale : Int) :
    firstFailing [(1, natIn 0 3 head.toNat), (2, intIn (-1000000) 1000000 ox), (3, intIn (-1000000) 1000000 oy),
      (4, intIn (-2000) 2000 scale)] =
    if headCalFaultCode head ox oy scale = 0 then none else some (headCalFaultCode head ox oy scale) := by
  have hoffset (v : Int) : intIn (-1000000) 1000000 v = false ↔ 1000000 < v.natAbs := intIn_symm_eq_false (n := 1000000)
  have hscale : intIn (-2000) 2000 scale = false ↔ 2000 < scale.natAbs := intIn_symm_eq_false (n := 2000)
  rw [firstFailing_eq_failCode (by simp)]
  simp only [failCode_cons, failCode_nil, natIn_zero_eq_false, hoffset, hscale]
  rfl

theorem State.setHeadCal_switching {s : State} (h : s.cc.engine = .switching) (head : Byte) (ox oy scale : Int) :
    s.setHeadCal head ox oy scale = ⟨s, .busy, 0, .heads (Rule.headItems s)⟩ := by
  rw [State.setHeadCal, if_pos h, s.refuseHeads_eq]

theorem State.setHeadCal_checked {s : State} (h : s.cc.engine ≠ .switching) (head : Byte) (ox oy scale : Int) :
    let n := headCalFaultCode head ox oy scale
    let u := s.putHead (fourOf head) { s.head (fourOf head) with ox := ox, oy := oy, scale := scale }
    s.setHeadCal head ox oy scale =
      if n = 0 then ⟨u, .ok, 0, .heads (Rule.headItems u)⟩ else ⟨s, .badValue, n, .heads (Rule.headItems s)⟩ := by
  intro n u
  rw [State.setHeadCal, if_neg h, headCalFault_eq]
  by_cases hn : n = 0
  · rw [if_pos hn, if_pos hn]
    exact u.taken_headItems
  · rw [if_neg hn, if_neg hn]
    exact s.refuseHeads_eq _ _

/-- Settles O33: by the engine state and the first field out of range. -/
theorem setHeadCal : Obligations.SetHeadCal := by
  intro tag head ox oy scale s hs hx1 hx2 hy1 hy2 hz1 hz2 p n
  have hox : intAt p 1 4 = ox := leInt_leIntBytes4 hx1 hx2
  have hoy : intAt p 5 4 = oy := leInt_leIntBytes4 hy1 hy2
  have hscale : intAt p 9 2 = scale := leInt_leIntBytes (n := 2) (by norm_num; omega) (by norm_num; omega)
  have hrun {a : Answer} (ha : s.setHeadCal head ox oy scale = a) :
      exec (.setHeadCal tag p) s = .next (s.replyTo .setHeadCal tag p a) := by
    refine exec_answered (c := .setHeadCal) hs rfl ?_
    change s.setHeadCal head (intAt p 1 4) (intAt p 5 4) (intAt p 9 2) = a
    rw [hox, hoy, hscale, ha]
  refine ⟨fun he => hrun (State.setHeadCal_switching he ..), fun he hn => ?_, fun h he hn hh => ?_⟩
  · exact hrun ((State.setHeadCal_checked he head ox oy scale).trans (if_neg hn))
  · have hset := (State.setHeadCal_checked he head ox oy scale).trans (if_pos hn)
    rw [fourOf_eq hh] at hset
    exact hrun hset

/-! ### SET_HEADS (R51, R52) -/

/-- The number of the lowest-numbered setting out of range, 0 when all are in range (R51). -/
def headsFaultCode (e tmo m r : Byte) : Nat :=
  if 15 < e.toNat then 1 else if tmo.toNat = 0 then 2 else if ¬ (1 ≤ m.toNat ∧ m.toNat ≤ 64) then 3
  else if ¬ (1 ≤ r.toNat ∧ r.toNat ≤ 64) then 4 else 0

theorem headsFault_eq (e tmo m r : Byte) :
    firstFailing [(1, natIn 0 15 e.toNat), (2, natIn 1 255 tmo.toNat), (3, natIn 1 64 m.toNat),
      (4, natIn 1 64 r.toNat)] =
    if headsFaultCode e tmo m r = 0 then none else some (headsFaultCode e tmo m r) := by
  have htmo : natIn 1 255 tmo.toNat = false ↔ tmo.toNat = 0 := by
    have := tmo.isLt
    rw [natIn_eq_false]
    omega
  rw [firstFailing_eq_failCode (by simp)]
  simp only [failCode_cons, failCode_nil, natIn_zero_eq_false, htmo]
  simp only [natIn_eq_false]
  rfl

/-- The heads after SET_HEADS (R52), each by its status and its bit. -/
theorem Head.setEnabled_eq (x : Head) (on : Bool) : x.setEnabled on =
    if on then
      (if x.status = .disabled then { x with status := .hunting, miss := 0, recov := 0, fault := .clear } else x)
    else if x.status = .disabled then x
    else { x with status := .disabled, miss := 0, recov := 0, lock := false } := by
  unfold Head.setEnabled
  rw [x.enabled_eq]
  cases on <;> by_cases h : x.status = .disabled <;> simp [h]

/-- The bits of the enable byte are the heads of the set it spells (R184). -/
theorem headSet_has_byte (e : Byte) (h : Fin 4) : HeadSet.has (BitVec.ofNat 4 e.toNat) h = e.getLsbD h.val := by
  simp [HeadSet.has, h.isLt]

theorem State.setHeads_switching {s : State} (h : s.cc.engine = .switching) (e tmo m r : Nat) :
    s.setHeads e tmo m r = ⟨s, .busy, 0, .heads (Rule.headItems s)⟩ := by
  rw [State.setHeads, if_pos h, s.refuseHeads_eq]

theorem State.setHeads_checked {s : State} (h : s.cc.engine ≠ .switching) (e tmo m r : Byte) :
    let n := headsFaultCode e tmo m r
    let u := s.applyHeads e.toNat tmo.toNat m.toNat r.toNat
    s.setHeads e.toNat tmo.toNat m.toNat r.toNat =
      if n = 0 then ⟨u, .ok, 0, .heads (Rule.headItems u)⟩ else ⟨s, .badValue, n, .heads (Rule.headItems s)⟩ := by
  intro n u
  rw [State.setHeads, if_neg h, headsFault_eq]
  by_cases hn : n = 0
  · rw [if_pos hn, if_pos hn]
    exact u.taken_headItems
  · rw [if_neg hn, if_neg hn]
    exact s.refuseHeads_eq _ _

/-- Settles O32: by the engine state and the first setting out of range; the heads change one by one. -/
theorem setHeads : Obligations.SetHeads := by
  intro tag e tmo m r s hs n
  have hrun {a : Answer} (ha : s.setHeads e.toNat tmo.toNat m.toNat r.toNat = a) :
      exec (.setHeads tag [e, tmo, m, r]) s = .next (s.replyTo .setHeads tag [e, tmo, m, r] a) := by
    refine exec_answered (c := .setHeads) hs rfl ?_
    simp only [State.runCommand, natAt_one]
    exact ha
  refine ⟨fun he => hrun (State.setHeads_switching he ..), fun he hn => ?_, fun he hn => ?_⟩
  · exact hrun ((State.setHeads_checked he e tmo m r).trans (if_neg hn))
  · intro after u
    have hafter : s.applyHeads e.toNat tmo.toNat m.toNat r.toNat = u.settleSections := by
      simp only [State.applyHeads, Head.setEnabled_eq, headSet_has_byte, u, after]
    have hset := (State.setHeads_checked he e tmo m r).trans (if_pos hn)
    rw [hafter] at hset
    exact hrun hset

end Sys2Proof.Machine
end

section
/-! The bytes of a section frame (R45, R183): its fields and points read back, and the checks in their order. -/

namespace Sys2Proof.Machine

/-! ### Fields behind a run of bytes, and inside a record -/

/-- A field behind a run of bytes is read in what follows the run. -/
theorem drop_take_append (pre rest : List Byte) (o n : Nat) :
    ((pre ++ rest).drop (pre.length + o)).take n = (rest.drop o).take n := by
  rw [← List.drop_drop, List.drop_left]

theorem natAt_append_add (pre rest : List Byte) (o n : Nat) : natAt (pre ++ rest) (pre.length + o) n = natAt rest o n :=
  congrArg leNat (drop_take_append pre rest o n)

theorem intAt_append_add (pre rest : List Byte) (o n : Nat) : intAt (pre ++ rest) (pre.length + o) n = intAt rest o n :=
  congrArg leInt (drop_take_append pre rest o n)

/-- A field inside a record is a field of the bytes that the record is cut from. -/
theorem drop_take_cut (bs : List Byte) {o m i n : Nat} (h : i + n ≤ m) :
    (((bs.drop o).take m).drop i).take n = (bs.drop (o + i)).take n := by
  rw [List.drop_take, List.take_take, List.drop_drop, min_eq_left (by omega)]

theorem natAt_cut (bs : List Byte) {o m i n : Nat} (h : i + n ≤ m) :
    natAt ((bs.drop o).take m) i n = natAt bs (o + i) n := congrArg leNat (drop_take_cut bs h)

theorem intAt_cut (bs : List Byte) {o m i n : Nat} (h : i + n ≤ m) :
    intAt ((bs.drop o).take m) i n = intAt bs (o + i) n := congrArg leInt (drop_take_cut bs h)

/-! ### Points -/

/-- The point of an index in the bytes behind the header of a frame (11.2). -/
def pointAt (rest : List Byte) (k : Nat) : Point :=
  { u := intAt rest (9 * k) 4, w := natAt rest (9 * k + 4) 4, quality := natAt rest (9 * k + 8) 1 }

/-- The point that a check reads in a whole frame. -/
theorem pointOf_frame (header rest : List Byte) (k : Nat) (h : header.length = 7) :
    pointOf (((header ++ rest).drop (7 + 9 * k)).take 9) = pointAt rest k := by
  simp only [pointOf, pointAt, intAt_cut _ (show 0 + 4 ≤ 9 by decide), natAt_cut _ (show 4 + 4 ≤ 9 by decide),
    natAt_cut _ (show 8 + 1 ≤ 9 by decide), Nat.add_assoc, ← h, intAt_append_add, natAt_append_add, Nat.add_zero]

/-- The order check compares neighbours; that orders every two points (R45 check 6). -/
theorem ascendingU_iff : ∀ l : List Point, ascendingU l = true ↔ l.Pairwise fun a b => a.u < b.u
  | [] => by simp [ascendingU]
  | [a] => by simp [ascendingU]
  | a :: b :: rest => by
    rw [ascendingU, Bool.and_eq_true, decide_eq_true_eq, ascendingU_iff (b :: rest), List.pairwise_cons (a := a)]
    refine and_congr_left fun h => ⟨fun hab c hc => ?_, fun hall => hall b List.mem_cons_self⟩
    rcases List.mem_cons.1 hc with rfl | hc
    · exact hab
    · exact hab.trans (List.rel_of_pairwise_cons h hc)

theorem Point.inRange_iff (p : Point) : p.inRange = true ↔ -200000 ≤ p.u ∧ p.u ≤ 200000 ∧ p.w ≤ 500000 :=
  decide_eq_true_iff

/-- A point's 9 bytes (11.2). -/
def Point.bytes (p : Point) : List Byte := leIntBytes 4 p.u ++ leBytes 4 p.w ++ leBytes 1 p.quality

theorem Point.bytes_length (p : Point) : p.bytes.length = 9 := by simp [Point.bytes]

/-- The fields of a point fit the bytes they are sent in. -/
structure Point.Fits (p : Point) : Prop where
  u : -2147483648 ≤ p.u ∧ p.u < 2147483648
  w : p.w < 4294967296
  quality : p.quality < 256

theorem Point.Fits.pointAt_zero {p : Point} (h : p.Fits) (rest : List Byte) : pointAt (p.bytes ++ rest) 0 = p := by
  have hu : intAt (p.bytes ++ rest) 0 4 = p.u := leInt_leIntBytes4 h.u.1 h.u.2
  have hw : natAt (p.bytes ++ rest) 4 4 = p.w := leNat_leBytes4 h.w
  have hq : natAt (p.bytes ++ rest) 8 1 = p.quality := leNat_leBytes1 h.quality
  rw [pointAt, hu, hw, hq]

theorem pointAt_succ (p : Point) (rest : List Byte) (k : Nat) : pointAt (p.bytes ++ rest) (k + 1) = pointAt rest k := by
  have hoff : 9 * (k + 1) = p.bytes.length + 9 * k := by rw [p.bytes_length]; ring
  simp only [pointAt, hoff, Nat.add_assoc, intAt_append_add, natAt_append_add]

/-- Points read back from their bytes, whatever follows. -/
theorem points_readBack {pts : List Point} (h : ∀ p ∈ pts, p.Fits) (rest : List Byte) :
    (List.range pts.length).map (pointAt (pts.flatMap Point.bytes ++ rest)) = pts := by
  induction pts with
  | nil => rfl
  | cons p pts ih =>
    rw [List.forall_mem_cons] at h
    obtain ⟨hp, hpts⟩ := h
    rw [List.length_cons, List.range_succ_eq_map, List.map_cons, List.map_map, List.flatMap_cons, List.append_assoc,
      hp.pointAt_zero]
    refine congrArg (p :: ·) (Eq.trans (List.map_congr_left fun k _ => ?_) (ih hpts))
    exact pointAt_succ p _ k

/-! ### The checks (R45) -/

/-- The header of a section frame (11.2). -/
def frameHeader (id : Byte) (seq temp n : Nat) : List Byte :=
  [id] ++ leBytes 2 seq ++ leBytes 2 temp ++ leBytes 2 n

theorem frameHeader_length (id : Byte) (seq temp n : Nat) : (frameHeader id seq temp n).length = 7 := rfl

/-- The fields of the header read back. -/
theorem frameHeader_fields (id : Byte) {seq temp n : Nat} (hseq : seq < 65536) (htemp : temp < 65536) (hn : n < 65536)
    (rest : List Byte) :
    let bs := frameHeader id seq temp n ++ rest
    natAt bs 0 1 = id.toNat ∧ natAt bs 1 2 = seq ∧ natAt bs 3 2 = temp ∧ natAt bs 5 2 = n :=
  ⟨natAt_one _ _, leNat_leBytes2 hseq, leNat_leBytes2 htemp, leNat_leBytes2 hn⟩

/-- A frame that ends in its header. -/
theorem checkSectionFrame_short (h : Fin 4) {bs : List Byte} (hlen : bs.length < 7) :
    checkSectionFrame h bs = .error .length := if_pos hlen

/-- The checks of a frame with a whole header, in the terms of its fields. -/
theorem checkSectionFrame_fields (h : Fin 4) (id : Byte) {seq temp n : Nat} (hseq : seq < 65536) (htemp : temp < 65536)
    (hn : n < 65536) (rest : List Byte) :
    let bs := frameHeader id seq temp n ++ rest
    let pts := (List.range n).map (pointAt rest)
    checkSectionFrame h bs =
      if 960 < n then .error .count
      else if ¬ 9 * n + 4 ≤ rest.length then .error .length
      else if ¬ crcMatches bs (7 + 9 * n) = true then .error .crc
      else if id.toNat ≠ h.val then .error .headId
      else if ¬ pts.Pairwise (fun a b => a.u < b.u) then .error .order
      else if ¬ ∀ p ∈ pts, -200000 ≤ p.u ∧ p.u ≤ 200000 ∧ p.w ≤ 500000 then .error .range
      else .ok { seq := BitVec.ofNat 16 seq, frame := { temp := readingOf temp, points := pts } } := by
  intro bs pts
  obtain ⟨hid, hs, ht, hc⟩ := frameHeader_fields id hseq htemp hn rest
  have hlen : bs.length = 7 + rest.length := List.length_append
  have hshort : ¬ bs.length < 7 := by omega
  have hend : bs.length < 11 + 9 * n ↔ ¬ 9 * n + 4 ≤ rest.length := by omega
  have hpts : ((List.range n).map fun k => (bs.drop (7 + 9 * k)).take 9).map pointOf = pts := by
    rw [List.map_map]
    exact List.map_congr_left fun k _ => pointOf_frame _ rest k (frameHeader_length id seq temp n)
  have hrange : pts.all Point.inRange = true ↔ ∀ p ∈ pts, -200000 ≤ p.u ∧ p.u ≤ 200000 ∧ p.w ≤ 500000 := by
    simp only [List.all_eq_true, Point.inRange_iff]
  unfold checkSectionFrame
  rw [hid, hs, ht, hc]
  simp only [hpts, if_neg hshort, hend, Bool.not_eq_true', ← Bool.not_eq_true, hrange, ascendingU_iff]

/-- Settles O34: the checks' branches, and for a laid-out frame each check passed. -/
theorem sectionFrameReadBack : Obligations.SectionFrameReadBack := by
  refine ⟨fun h bs => checkSectionFrame_short h, fun h id seq temp n rest hseq htemp hn => ?_, ?_⟩
  · intro bs pts long crc ascending inRange
    have hcheck := checkSectionFrame_fields h id hseq htemp hn rest
    refine ⟨fun h1 => ?_, fun h1 h2 => ?_, fun h1 h2 h3 => ?_, fun h1 h2 h3 h4 => ?_, fun h1 h2 h3 h4 h5 => ?_,
      fun h1 h2 h3 h4 h5 h6 => ?_, fun h1 h2 h3 h4 h5 h6 => ?_⟩
    · exact hcheck.trans (if_pos h1)
    all_goals refine hcheck.trans ((if_neg (Nat.not_lt.2 h1)).trans ?_)
    · exact if_pos h2
    all_goals refine (if_neg (not_not.2 h2)).trans ?_
    · exact if_pos h3
    all_goals refine (if_neg (not_not.2 h3)).trans ?_
    · exact if_pos h4
    all_goals refine (if_neg (not_not.2 h4)).trans ?_
    · exact if_pos h5
    all_goals refine (if_neg (not_not.2 h5)).trans ?_
    · exact if_pos h6
    · exact if_neg (not_not.2 h6)
  · intro h seq temp pts htemp hcount hasc hrange
    have hfits : ∀ p ∈ pts, p.Fits := fun p hp => by
      obtain ⟨h1, h2, h3, h4⟩ := hrange p hp
      exact ⟨⟨by omega, by omega⟩, by omega, by omega⟩
    let covered := frameHeader (BitVec.ofNat 8 h.val) seq.toNat temp pts.length ++ pts.flatMap Point.bytes
    have hlen : covered.length = 7 + 9 * pts.length := by
      simp [covered, frameHeader_length, List.length_flatMap, Point.bytes_length, Nat.mul_comm]
    have hframe : withCrc covered = frameHeader (BitVec.ofNat 8 h.val) seq.toNat temp pts.length ++
        (pts.flatMap Point.bytes ++ crcBytes covered) := List.append_assoc ..
    have hcheck := checkSectionFrame_fields h (BitVec.ofNat 8 h.val) seq.isLt htemp (by omega : pts.length < 65536)
      (pts.flatMap Point.bytes ++ crcBytes covered)
    rw [← hframe, points_readBack hfits] at hcheck
    refine hcheck.trans ?_
    have hcrc := crcMatches_withCrc covered
    rw [hlen] at hcrc
    have hid : (BitVec.ofNat 8 h.val).toNat = h.val := by fin_cases h <;> rfl
    have hrest : 9 * pts.length + 4 ≤ (pts.flatMap Point.bytes ++ crcBytes covered).length := by
      simp [List.length_flatMap, Point.bytes_length, crcBytes, Nat.mul_comm]
    rw [if_neg (by omega), if_neg (not_not.2 hrest), if_neg (not_not.2 hcrc), if_neg (not_not.2 hid),
      if_neg (not_not.2 hasc), if_neg (not_not.2 fun p hp => ?_), BitVec.ofNat_toNat, BitVec.setWidth_eq]
    · rfl
    · obtain ⟨h1, h2, h3, -⟩ := hrange p hp
      exact ⟨h1, h2, h3⟩

end Sys2Proof.Machine
end

section
/-! The completion and the retirement of sections (R57 to R59, R61): what a slot becomes in the completion test, what a
retirement leaves of every block, and the assembly timeout. -/

namespace Sys2Proof.Machine

/-! ### The completion test (R57) -/

theorem State.waitsFor_iff (s : State) (p : PendSlot) (k : Fin 4) : s.waitsFor p k = true ↔
    (s.head k).status = .active ∧ p.frames.get k = none ∧ HeadSet.has p.passed k = false := by
  simp [State.waitsFor, Head.isActive_iff, and_assoc]

theorem State.testSlot_waiting {s : State} {p : PendSlot} (h : ∃ k, s.waitsFor p k = true) : s.testSlot p = p := by
  rw [State.testSlot, allHeads_any.2 h]
  simp

theorem State.testSlot_complete {s : State} {p : PendSlot} (hc : p.contrib = none) (h : ¬ ∃ k, s.waitsFor p k = true) :
    s.testSlot p = s.complete p := by
  have hany : allHeads.any (s.waitsFor p) = false := by rwa [← Bool.not_eq_true, allHeads_any]
  simp [State.testSlot, hc, hany]

theorem State.testSlot_seq (s : State) (p : PendSlot) : (s.testSlot p).seq = p.seq := by
  unfold State.testSlot
  split <;> rfl

/-- While every slot waits for a head, the completion test and the cascade leave the part. -/
theorem State.settleSections_waiting {s : State}
    (h : ∀ p ∈ s.sa.pend, p.contrib = none ∧ ∃ k, s.waitsFor p k = true) : s.settleSections = s := by
  have htest : s.testSlots = s := by
    have hpend : s.sa.pend.map s.testSlot = s.sa.pend :=
      (List.map_congr_left fun p hp => State.testSlot_waiting (h p hp).2).trans (List.map_id _)
    rw [State.testSlots, hpend, State.setSa_self]
  rw [State.settleSections, htest, State.cascade_of_waiting fun p hp => (h p hp).1]

/-! ### The section temperature (R61) -/

/-- The quotient, plus one from half of the divisor on, is the rounded quotient. -/
theorem meanReading_eq {ts : List Nat} (h : ts ≠ []) : meanReading ts = (2 * ts.sum + ts.length) / (2 * ts.length) := by
  have hlen : 0 < ts.length := List.length_pos_iff.2 h
  have hmod := Nat.mod_lt ts.sum hlen
  have hsum : 2 * ts.sum + ts.length =
      2 * (ts.sum % ts.length) + ts.length + 2 * ts.length * (ts.sum / ts.length) := by
    have := Nat.mod_add_div ts.sum ts.length
    rw [Nat.mul_assoc]
    omega
  rw [meanReading, hsum, Nat.add_mul_div_left _ _ (by omega), Nat.add_comm]
  congr 1
  split
  · exact (Nat.div_eq_of_lt_le (by omega) (by omega)).symm
  · exact (Nat.div_eq_of_lt (by omega)).symm

/-- The section temperature by the readings: their rounded mean, or the held temperature and a longer run without a
reading. -/
theorem State.sectionTemperature_spec (s : State) (p : PendSlot) (c : HeadSet) :
    let ts := readings p c
    let temp := if ts = [] then s.sa.heldTemp else (2 * ts.sum + ts.length) / (2 * ts.length)
    let run := if ts = [] then min (s.sa.noReading + 1) 65535 else 0
    (s.sectionTemperature p c).1 = temp ∧ (s.sectionTemperature p c).2.1 = decide (ts = []) ∧
    (s.sectionTemperature p c).2.2.sa = { s.sa with heldTemp := temp, noReading := run } := by
  intro ts temp run
  unfold State.sectionTemperature
  split
  case h_1 hnone =>
    simp only [temp, run, ts, hnone, if_true, decide_true, true_and]
    split <;> rfl
  case h_2 t rest hsome =>
    simp only [temp, run, ts, hsome, meanReading_eq (List.cons_ne_nil t rest), List.cons_ne_nil, decide_false, if_false,
      true_and, State.setSa_sa]

/-- A run of 200 sections without a reading raises THERMAL_HOLD (R61). -/
theorem State.sectionTemperature_flag {s : State} {p : PendSlot} {c : HeadSet} (h : readings p c = [])
    (hrun : min (s.sa.noReading + 1) 65535 = 200) :
    FlagSet.has (s.sectionTemperature p c).2.2.au.flags .thermalHold = true := by
  simp only [State.sectionTemperature, h, hrun, if_true]
  exact State.raise_has _ _

/-! ### Retirement (R59) -/

theorem State.countMisses_hl (s : State) (p : PendSlot) : (s.countMisses p).hl = { s.hl with
    heads := perHead fun k => Head.afterRetire s.hl.lostM (s.head k) (p.frames.get k).isSome } := by
  unfold State.countMisses
  dsimp only
  split <;> rfl

/-- An ACTIVE head at its last miss becomes LOST, which raises HEAD_LOST (R49). -/
theorem State.countMisses_flag {s : State} {p : PendSlot} {k : Fin 4} (hactive : (s.head k).status = .active)
    (hframe : p.frames.get k = none) (hmiss : s.hl.lostM ≤ (s.head k).miss + 1) :
    FlagSet.has (s.countMisses p).au.flags .headLost = true := by
  have hlost : ((s.head k).isActive && !((perHead fun h =>
      Head.afterRetire s.hl.lostM (s.head h) (p.frames.get h).isSome).get k).isActive) = true := by
    simp [Head.isActive, Head.afterRetire, hactive, hframe, Nat.not_lt.2 hmiss]
  unfold State.countMisses
  dsimp only
  rw [if_pos (allHeads_any.2 ⟨k, hlost⟩)]
  exact State.raise_has _ _

/-- The part when a slot's section has been handed on and its misses are counted (R59 steps 2 and 3). -/
def State.retireCounted (s : State) (p : PendSlot) (c : HeadSet) : State :=
  let r := s.sectionTemperature p c
  (r.2.2.hand p c r.1 r.2.1).countMisses p

/-- What follows the count of the misses: the completion test, the slot freed, and the settled coordinate's advance. -/
theorem State.retire_eq (s : State) (p : PendSlot) (c : HeadSet) :
    let u := (s.retireCounted p c).testSlots
    s.retire p c = (u.setSa { u.sa with pend := u.sa.pend.drop 1 }).advance := rfl

theorem State.retireCounted_retireKept (s : State) (p : PendSlot) (c : HeadSet) :
    RetireKept (s.sectionTemperature p c).2.2 (s.retireCounted p c) :=
  RetireKept.after (State.countMisses_retireKept _ p) rfl rfl

theorem State.retire_flagsGrow (s : State) (p : PendSlot) (c : HeadSet) :
    FlagsGrow (s.retireCounted p c) (s.retire p c) := by
  intro f hf
  rw [s.retire_eq]
  exact (State.advance_retireKept _).flags f hf

theorem State.retire_hl (s : State) (p : PendSlot) (c : HeadSet) : (s.retire p c).hl = { s.hl with
    heads := perHead fun k => Head.afterRetire s.hl.lostM (s.head k) (p.frames.get k).isSome } := by
  obtain ⟨hhl, -, -⟩ := s.sectionTemperature_blocks p c
  rw [s.retire_eq, (State.advance_frame _).hl]
  change (State.countMisses _ p).hl = _
  rw [State.countMisses_hl]
  simp only [State.head, State.hand, State.setPt_hl, State.setGe_hl, hhl]

/-- Each head after a retirement (R49, R50). -/
theorem State.retire_head (s : State) (p : PendSlot) (c : HeadSet) (k : Fin 4) :
    (s.retire p c).head k = Head.afterRetire s.hl.lostM (s.head k) (p.frames.get k).isSome := by
  rw [State.head, s.retire_hl, perHead_get]

/-- The Section Assembler after a retirement: the section temperature's part, and the slots but the oldest, tested. -/
theorem State.retire_sa (s : State) (p : PendSlot) (c : HeadSet) :
    (s.retire p c).sa = { (s.sectionTemperature p c).2.2.sa with
      pend := (s.sa.pend.map (s.retireCounted p c).testSlot).drop 1 } := by
  have hsa : (s.retireCounted p c).sa = (s.sectionTemperature p c).2.2.sa := (State.countMisses_blocks _ p).1
  rw [s.retire_eq, (State.advance_frame _).sa]
  simp only [State.testSlots, State.setSa_sa, hsa, s.sectionTemperature_pend]

theorem State.retire_flag_headLost {s : State} {p : PendSlot} {c : HeadSet} {k : Fin 4}
    (hactive : (s.head k).status = .active) (hframe : p.frames.get k = none)
    (hmiss : s.hl.lostM ≤ (s.head k).miss + 1) : FlagSet.has (s.retire p c).au.flags .headLost = true := by
  obtain ⟨hhl, -, -⟩ := s.sectionTemperature_blocks p c
  have hhead : (s.sectionTemperature p c).2.2.head k = s.head k := by rw [State.head, State.head, hhl]
  refine s.retire_flagsGrow p c _ (State.countMisses_flag ?_ hframe ?_)
  · exact (congrArg Head.status hhead).trans hactive
  · change (s.sectionTemperature p c).2.2.hl.lostM ≤ ((s.sectionTemperature p c).2.2.head k).miss + 1
    rwa [hhl, hhead]

theorem State.retire_flag_thermalHold {s : State} {p : PendSlot} {c : HeadSet} (h : readings p c = [])
    (hrun : min (s.sa.noReading + 1) 65535 = 200) : FlagSet.has (s.retire p c).au.flags .thermalHold = true :=
  s.retire_flagsGrow p c _ ((s.retireCounted_retireKept p c).flags _ (State.sectionTemperature_flag h hrun))

/-! ### Runs of retirements -/

/-- A head that is neither ACTIVE nor LOST has nothing that a retirement counts (R49, R50). -/
theorem Head.afterRetire_idle {x : Head} (h : x.status ≠ .active ∧ x.status ≠ .lost) (m : Nat) (b : Bool) :
    x.afterRetire m b = x := by
  unfold Head.afterRetire
  split
  · exact absurd ‹_› h.1
  · exact absurd ‹_› h.2
  · rfl

theorem State.retireUpTo_head_idle {k : Fin 4} : ∀ (n : Nat) {s : State},
    (s.head k).status ≠ .active ∧ (s.head k).status ≠ .lost → (State.retireUpTo n s).head k = s.head k
  | 0, _, _ => rfl
  | n + 1, s, h => by
    unfold State.retireUpTo
    split
    · split
      · rename_i p _ _ _ c _
        have hhead : (s.retire p c).head k = s.head k := by rw [s.retire_head, Head.afterRetire_idle h]
        rw [State.retireUpTo_head_idle n (hhead ▸ h), hhead]
      · rfl
    · rfl

theorem State.settleSections_head_idle {s : State} {k : Fin 4}
    (h : (s.head k).status ≠ .active ∧ (s.head k).status ≠ .lost) : s.settleSections.head k = s.head k :=
  State.retireUpTo_head_idle _ (s := s.testSlots) h

theorem State.settleSections_flagsGrow (s : State) : FlagsGrow s s.settleSections :=
  (FlagsGrow.of_flags rfl).trans s.testSlots.cascade_retireKept.flags

/-- Sections have been handed on, and slots have left at the old end of the trigger order. -/
structure HandsOn (s t : State) : Prop where
  handed : ∃ more, t.ge.handed = s.ge.handed ++ more
  pend : ∃ gone, s.sa.pend.map PendSlot.seq = gone ++ t.sa.pend.map PendSlot.seq

theorem HandsOn.refl (s : State) : HandsOn s s := ⟨⟨[], (List.append_nil _).symm⟩, ⟨[], rfl⟩⟩

theorem HandsOn.trans {s t u : State} (h : HandsOn s t) (k : HandsOn t u) : HandsOn s u := by
  obtain ⟨⟨more, hmore⟩, gone, hgone⟩ := h
  obtain ⟨⟨more', hmore'⟩, gone', hgone'⟩ := k
  exact ⟨⟨more ++ more', by rw [hmore', hmore, List.append_assoc]⟩,
    ⟨gone ++ gone', by rw [hgone, hgone', List.append_assoc]⟩⟩

/-- A retirement frees the oldest slot alone. -/
theorem State.retire_seqs (s : State) (p : PendSlot) (c : HeadSet) :
    (s.retire p c).sa.pend.map PendSlot.seq = (s.sa.pend.map PendSlot.seq).drop 1 := by
  rw [s.retire_sa]
  simp only [List.map_drop, List.map_map, Function.comp_def, State.testSlot_seq]

theorem State.retire_handsOn (s : State) (p : PendSlot) (c : HeadSet) : HandsOn s (s.retire p c) where
  handed := ⟨_, (s.retire_hands p c).2.2⟩
  pend := ⟨(s.sa.pend.map PendSlot.seq).take 1, by rw [s.retire_seqs, List.take_append_drop]⟩

theorem State.retireUpTo_handsOn : ∀ (n : Nat) (s : State), HandsOn s (State.retireUpTo n s)
  | 0, s => .refl s
  | n + 1, s => by
    unfold State.retireUpTo
    split
    · split
      · exact (s.retire_handsOn _ _).trans (State.retireUpTo_handsOn n _)
      · exact .refl s
    · exact .refl s

/-- Nothing retires while the oldest slot is WAITING (R59). -/
theorem State.cascade_of_oldest {s : State} {p : PendSlot} {rest : List PendSlot} (hpend : s.sa.pend = p :: rest)
    (hc : p.contrib = none) : s.cascade = s := by
  simp only [State.cascade, hpend, List.length_cons, State.retireUpTo, hc]

/-- Where the oldest slot is COMPLETE, its section is the first that is handed on. -/
theorem State.cascade_handsOn {s : State} {p : PendSlot} {c : HeadSet} {younger : List PendSlot}
    (hpend : s.sa.pend = p :: younger) (hc : p.contrib = some c) :
    ∃ x more gone, s.cascade.ge.handed = s.ge.handed ++ x :: more ∧ x.seq = p.seq ∧ x.coord = p.coord ∧
      x.contrib = c ∧ younger.map PendSlot.seq = gone ++ s.cascade.sa.pend.map PendSlot.seq := by
  have hcascade : s.cascade = State.retireUpTo younger.length (s.retire p c) := by
    simp only [State.cascade, hpend, List.length_cons, State.retireUpTo, hc]
  obtain ⟨⟨more, hmore⟩, gone, hgone⟩ := State.retireUpTo_handsOn younger.length (s.retire p c)
  obtain ⟨-, -, hhanded⟩ := s.retire_hands p c
  rw [s.retire_seqs, hpend] at hgone
  rw [hhanded, List.append_assoc, List.singleton_append, ← hcascade] at hmore
  rw [← hcascade] at hgone
  exact ⟨_, more, gone, hmore, rfl, rfl, rfl, hgone⟩

/-! ### The assembly timeout (R58) -/

/-- The end of a row at a drained Line Port, with its effect named. -/
theorem event_eq_of_drained {s u : State} {f : State → State} (hs : s.Drained) (h : f s = u)
    (hreset : u.inReset = s.inReset) (hlp : u.lp = s.lp) : event f s = .next u.transmit := by
  subst h
  exact event_of_drained hs.1 (hs.of_lp hreset hlp)

/-- Of the slots, the WAITING one of its sequence number expires. -/
theorem State.expireSlot_eq {s : State} {p : PendSlot} {older younger : List PendSlot} (hc : p.contrib = none)
    (hpend : s.sa.pend = older ++ p :: younger) (hother : ∀ q ∈ older ++ younger, q.seq ≠ p.seq) :
    s.expireSlot p.seq = (s.setSa { s.sa with pend := older ++ s.complete p :: younger }).cascade := by
  have hkept {l : List PendSlot} (h : ∀ q ∈ l, q.seq ≠ p.seq) :
      (l.map fun q => if q.seq == p.seq && q.contrib.isNone then s.complete q else q) = l :=
    (List.map_congr_left fun q hq => by simp [h q hq]).trans (List.map_id _)
  have holder := hkept fun q hq => hother q (List.mem_append_left _ hq)
  have hyounger := hkept fun q hq => hother q (List.mem_append_right _ hq)
  rw [State.expireSlot, hpend, List.map_append, List.map_cons, holder, hyounger]
  simp [hc]

/-- ASSEMBLY_TIMEOUT_EXPIRY with nothing due before it is the slot's expiry at its time (R58). -/
theorem exec_assemblyTimeoutExpiry {s : State} {p : PendSlot} {older younger : List PendSlot} (hs : s.Drained)
    (hc : p.contrib = none) (hdue : s.nextDue p.expiry = none) (hpend : s.sa.pend = older ++ p :: younger)
    (hother : ∀ q ∈ older ++ younger, q.seq ≠ p.seq) :
    exec (.assemblyTimeoutExpiry p.seq) s = .next ((s.timeTo p.expiry).setSa
      { s.sa with pend := older ++ s.complete p :: younger }).cascade.transmit := by
  have hslot : s.waitingSlot p.seq = some p := by
    rw [State.waitingSlot, hpend, List.find?_eq_some_iff_append]
    exact ⟨by simp [hc], older, younger, rfl, fun q hq => by simp [hother q (List.mem_append_left _ hq)]⟩
  have hrow : s.timeoutRow p.seq = ((s.timeTo p.expiry).setSa
      { s.sa with pend := older ++ s.complete p :: younger }).cascade := by
    rw [State.timeoutRow, hslot]
    change s.driven p.expiry (.timeout p.seq) = _
    rw [State.driven, State.upTo_none hdue]
    exact State.expireSlot_eq (s := s.timeTo p.expiry) hc hpend hother
  refine event_eq_of_drained (f := (·.timeoutRow p.seq)) hs hrow ?_ ?_
  · exact (State.cascade_frame _).inReset
  · exact (State.cascade_frame _).lp

/-- Without a WAITING slot of its number the row changes nothing. -/
theorem exec_assemblyTimeoutExpiry_none {s : State} (hs : s.Drained) {n : Seq}
    (h : ∀ q ∈ s.sa.pend, q.seq = n → q.contrib.isSome = true) :
    exec (.assemblyTimeoutExpiry n) s = .next s.transmit := by
  have hslot : s.waitingSlot n = none := by
    rw [State.waitingSlot, List.find?_eq_none]
    intro q hq hwait
    rw [Bool.and_eq_true, beq_iff_eq, Option.isNone_iff_eq_none] at hwait
    have hsome := h q hq hwait.1
    rw [hwait.2] at hsome
    cases hsome
  exact event_eq_of_drained (f := (·.timeoutRow n)) hs (by simp only [State.timeoutRow, hslot]) rfl rfl

/-- Settles O31: behind a WAITING slot nothing retires, and the oldest slot begins the cascade. -/
theorem assemblyTimeout : Obligations.AssemblyTimeout := by
  intro s p hs hc hdue contrib
  refine ⟨fun older younger hpend hne hwait hother => ?_, fun younger hpend hother => ?_,
    fun n => exec_assemblyTimeoutExpiry_none hs⟩
  · obtain ⟨q, rest, rfl⟩ := List.exists_cons_of_ne_nil hne
    have hhold : ((s.timeTo p.expiry).setSa { s.sa with pend := (q :: rest) ++ s.complete p :: younger }).cascade =
        (s.timeTo p.expiry).setSa { s.sa with pend := (q :: rest) ++ s.complete p :: younger } :=
      State.cascade_of_oldest rfl (hwait q List.mem_cons_self)
    rw [exec_assemblyTimeoutExpiry hs hc hdue hpend hother, hhold]
    rfl
  · have hexec := exec_assemblyTimeoutExpiry (older := []) hs hc hdue hpend hother
    obtain ⟨x, more, gone, hhanded, hseq, hcoord, hcontrib, hgone⟩ := State.cascade_handsOn
      (s := (s.timeTo p.expiry).setSa { s.sa with pend := s.complete p :: younger }) rfl rfl
    refine ⟨_, x, more, hexec, ?_, hseq, hcoord, hcontrib, ?_, gone, ?_⟩
    · rw [State.transmit_ge]
      exact hhanded
    · rw [State.transmit_lt, (State.cascade_frame _).lt]
      rfl
    · rw [State.transmit_sa]
      exact hgone

end Sys2Proof.Machine
end

section
/-! The head receivers (R44, R45, R48, R50, R187): frames that are faulty or stale, symbol errors, and the loss and the
gain of lock. -/

namespace Sys2Proof.Machine

/-! ### One head replaced -/

theorem PerHead.put_put {α : Type} (p : PerHead α) (h : Fin 4) (x y : α) : (p.put h x).put h y = p.put h y := by
  fin_cases h <;> rfl

theorem PerHead.put_get_self {α : Type} (p : PerHead α) (h : Fin 4) : p.put h (p.get h) = p := by
  fin_cases h <;> rfl

theorem State.putHead_putHead (s : State) (h : Fin 4) (x y : Head) : (s.putHead h x).putHead h y = s.putHead h y := by
  simp [State.putHead, PerHead.put_put]

theorem State.putHead_self (s : State) (h : Fin 4) : s.putHead h (s.head h) = s := by
  rw [State.putHead, State.head, PerHead.put_get_self]
  rfl

/-- A head's receiver at another running disparity. -/
def State.retuned (s : State) (h : Fin 4) (rd : Disparity) : State := s.putHead h { s.head h with rxRd := rd }

theorem State.retuned_head_self (s : State) (h : Fin 4) (rd : Disparity) :
    (s.retuned h rd).head h = { s.head h with rxRd := rd } := s.putHead_head_self h _

/-- Nothing but the running disparity of one receiver differs. -/
theorem State.retuned_head (s : State) (h : Fin 4) (rd : Disparity) (k : Fin 4) :
    (s.retuned h rd).head k = { s.head k with rxRd := if k = h then rd else (s.head k).rxRd } := by
  by_cases hk : k = h
  · subst hk
    rw [s.retuned_head_self, if_pos rfl]
  · rw [State.retuned, s.putHead_head_other _ hk, if_neg hk]

theorem State.retuned_putHead (s : State) (h : Fin 4) (rd : Disparity) (y : Head) :
    (s.retuned h rd).putHead h y = s.putHead h y := s.putHead_putHead h _ y

/-! ### What a run of symbols brings about (R44, R187) -/

section
variable {s : State} {h : Fin 4}

/-- A row of a head link ends with the transmitter's choice. -/
theorem exec_sectionFrameReceived (hs : s.Drained) {run : List Symbol} {u : State} (hu : s.sectionFrameEnds h run = u)
    (hreset : u.inReset = s.inReset) (hlp : u.lp = s.lp) :
    exec (.sectionFrameReceived h run) s = .next u.transmit :=
  event_eq_of_drained (f := (·.sectionFrameEnds h run)) hs hu hreset hlp

theorem exec_headSymbolError (hs : s.Drained) {inFrame : Bool} {run : List Symbol} {sym : Symbol} {u : State}
    (hu : s.headHears h inFrame false (run ++ [sym]) = u) (hreset : u.inReset = s.inReset) (hlp : u.lp = s.lp) :
    exec (.headSymbolError h inFrame run sym) s = .next u.transmit :=
  event_eq_of_drained (f := (·.headSymbolError h inFrame run sym)) hs hu hreset hlp

theorem exec_headLockLoss (hs : s.Drained) {u : State} (hu : s.headLockLoss h = u)
    (hreset : u.inReset = s.inReset) (hlp : u.lp = s.lp) : exec (.headLockLoss h) s = .next u.transmit :=
  event_eq_of_drained (f := (·.headLockLoss h)) hs hu hreset hlp

theorem exec_headLockGain (hs : s.Drained) {u : State} (hu : s.headLockGain h = u)
    (hreset : u.inReset = s.inReset) (hlp : u.lp = s.lp) : exec (.headLockGain h) s = .next u.transmit :=
  event_eq_of_drained (f := (·.headLockGain h)) hs hu hreset hlp

/-- A frame's symbols bring the frame's bytes to its checks. -/
theorem State.sectionFrameEnds_framed (hlock : (s.head h).lock = true) {gap : List Symbol} (hgap : Rule.noStart gap)
    (bs : List Byte) :
    let run := Rule.framed (s.head h).rxRd gap bs
    s.sectionFrameEnds h run = (s.retuned h (Rule.heard (s.head h).rxRd run)).sectionFrame h bs :=
  s.headHears_of_hear h false true _ hlock (hear_framed _ _ gap bs hgap)

/-- Symbols between frames move the receiver's running disparity alone. -/
theorem State.headHears_noStart (hlock : (s.head h).lock = true) {run : List Symbol} (hrun : Rule.noStart run)
    (ended : Bool) : s.headHears h false ended run = s.retuned h (Rule.heard (s.head h).rxRd run) :=
  s.headHears_of_hear h false ended run hlock (hear_noStart _ _ run hrun ended)

/-- A symbol error in a frame takes the head down (R48). -/
theorem State.headHears_error (hlock : (s.head h).lock = true) {inFrame ended : Bool} {run : List Symbol}
    (hhear : hear sectionWhole (s.head h).rxRd inFrame ended run = (Rule.heard (s.head h).rxRd run, [.symbolError])) :
    s.headHears h inFrame ended run =
      (s.retuned h (Rule.heard (s.head h).rxRd run)).headDown h .symbol true :=
  s.headHears_of_hear h inFrame ended run hlock hhear

/-! ### Faulty and stale frames (R45, R47, R50, R56) -/

theorem Assembler.inWindow_iff (a : Assembler) (n : Seq) :
    a.inWindow n = true ↔ ∃ k < min a.issued 4, n = a.seq - 1 - BitVec.ofNat 16 k := by
  simp only [Assembler.inWindow, List.any_eq_true, List.mem_range, beq_iff_eq, eq_comm (a := n)]

theorem State.sectionFrame_faulty {bs : List Byte} {f : HeadFault} (hcheck : checkSectionFrame h bs = .error f) :
    s.sectionFrame h bs = s.putHead h ((s.head h).afterFault f) := by
  simp only [State.sectionFrame, hcheck]

theorem State.sectionFrame_good {bs : List Byte} {g : GoodFrame} (hcheck : checkSectionFrame h bs = .ok g) :
    s.sectionFrame h bs = s.goodFrame h g := by
  simp only [State.sectionFrame, hcheck]

/-- With no section pending a good frame changes its head alone. -/
theorem State.goodFrame_stale (hpend : s.sa.pend = []) (g : GoodFrame) :
    s.goodFrame h g = s.putHead h ((s.head h).afterGood s.hl.recR (s.sa.inWindow g.seq)) := by
  let u := s.putHead h ((s.head h).afterGood s.hl.recR (s.sa.inWindow g.seq))
  have hplaced : u.setSa { u.sa with pend := placeFrame h g.seq g.frame u.sa.pend } = u := by
    have hsa : u.sa = { u.sa with pend := placeFrame h g.seq g.frame u.sa.pend } := by
      rw [show u.sa.pend = [] from hpend, placeFrame, ← hpend]
      rfl
    rw [← hsa, State.setSa_self]
  change (u.setSa { u.sa with pend := placeFrame h g.seq g.frame u.sa.pend }).settleSections = u
  rw [hplaced]
  refine State.settleSections_waiting fun p hp => ?_
  rw [show u.sa.pend = [] from hpend] at hp
  cases hp

end

/-- Settles O28: the frame's checks, and for a good frame the head's state and the window. -/
theorem faultyOrStaleSectionFrame : Obligations.FaultyOrStaleSectionFrame := by
  intro s h gap bs hs hgap run x becomes
  have hbecomes (hlock : x.lock = true) {y : Head}
      (hy : (s.retuned h x.rxRd).sectionFrame h bs = (s.retuned h x.rxRd).putHead h y) : becomes y := by
    refine exec_sectionFrameReceived hs ?_ rfl rfl
    rw [State.sectionFrameEnds_framed hlock hgap, ← s.retuned_putHead h x.rxRd y]
    exact hy
  have hhead : (s.retuned h x.rxRd).head h = x := s.retuned_head_self h _
  refine ⟨fun hlock any => ?_, fun f hlock hcheck => ?_, fun g hlock hcheck hpend => ?_⟩
  · exact exec_sectionFrameReceived hs (s.headHears_unlocked h false true any hlock) rfl rfl
  · refine hbecomes hlock ?_
    rw [State.sectionFrame_faulty hcheck, hhead, Head.afterFault]
  · intro window
    have hwindow : s.sa.inWindow g.seq = true ↔ window := s.sa.inWindow_iff g.seq
    have hgood {y : Head} (hy : x.afterGood s.hl.recR (s.sa.inWindow g.seq) = y) : becomes y := by
      refine hbecomes hlock ?_
      rw [State.sectionFrame_good hcheck, State.goodFrame_stale (s := s.retuned h x.rxRd) hpend, hhead, ← hy]
      rfl
    refine ⟨fun hst => hgood ?_, fun hst hin hmore => hgood ?_, fun hst hin henough => hgood ?_,
      fun hst hout => hgood ?_, fun hst => hgood ?_⟩
    · simp only [Head.afterGood, hst, Head.toActive]
    · simp only [Head.afterGood, hst, hwindow.2 hin, if_true, if_pos hmore]
    · simp only [Head.afterGood, hst, hwindow.2 hin, if_true, if_neg (Nat.not_lt.2 henough), Head.toActive]
    · simp only [Head.afterGood, hst, mt hwindow.1 hout]
      rfl
    · simp only [Head.afterGood, hst]

/-! ### Loss and gain of lock, and symbol errors (R44, R48) -/

section
variable {s : State} {h : Fin 4} {f : HeadFault} {lock : Bool}

theorem State.headDown_hunting (hst : (s.head h).status = .hunting) :
    s.headDown h f lock = s.putHead h { s.head h with fault := f, lock := lock } := by
  simp [State.headDown, hst]

theorem State.headDown_synced (hst : (s.head h).status = .active ∨ (s.head h).status = .lost) :
    s.headDown h f lock = ((s.putHead h { s.head h with
      status := .hunting, miss := 0, recov := 0, fault := f, lock := lock }).raise .headSync).settleSections := by
  unfold State.headDown
  dsimp only
  rw [if_pos hst]

/-- What the fall of an ACTIVE or LOST head to HUNTING leaves (R48). -/
structure FellToHunting (h : Fin 4) (x : Head) (s t : State) : Prop where
  frame : SectionFrame s t
  sync : FlagSet.has t.au.flags .headSync = true
  head : t.head h = { x with status := .hunting, miss := 0, recov := 0 }

theorem State.headDown_fell (hst : (s.head h).status = .active ∨ (s.head h).status = .lost) :
    FellToHunting h { s.head h with fault := f, lock := lock } s (s.headDown h f lock) := by
  let x := { s.head h with status := .hunting, miss := 0, recov := 0, fault := f, lock := lock }
  have hidle : (((s.putHead h x).raise .headSync).head h) = x := s.putHead_head_self h x
  rw [State.headDown_synced hst]
  refine ⟨?_, State.settleSections_flagsGrow _ _ (State.raise_has _ _), ?_⟩
  · exact ((s.setHeads_frame (s.hl.heads.put h x)).trans (State.raise_frame _ _).section).trans
      (State.settleSections_frame _)
  · rw [State.settleSections_head_idle (by rw [hidle]; exact ⟨nofun, nofun⟩), hidle]

/-- A row that takes the head down with a symbol error, by the head's state (R48): its receiver keeps its lock. -/
theorem exec_takesDown {i : Instr} {run : List Symbol} (hlock : (s.head h).lock = true)
    (hexec : ∀ u : State, u = (s.retuned h (Rule.heard (s.head h).rxRd run)).headDown h .symbol true →
      u.inReset = s.inReset → u.lp = s.lp → exec i s = .next u.transmit) :
    let y := { s.head h with fault := .symbol, rxRd := Rule.heard (s.head h).rxRd run }
    ((s.head h).status = .active ∨ (s.head h).status = .lost →
      ∃ t, exec i s = .next t ∧ FlagSet.has t.au.flags .headSync = true ∧ t.lt = s.lt ∧
        t.head h = { y with status := .hunting, miss := 0, recov := 0 }) ∧
    ((s.head h).status = .hunting → exec i s = .next (s.putHead h y).transmit) := by
  intro y
  let u := s.retuned h (Rule.heard (s.head h).rxRd run)
  have hhead : u.head h = { s.head h with rxRd := Rule.heard (s.head h).rxRd run } := s.retuned_head_self h _
  have hy : ({ u.head h with fault := .symbol, lock := true } : Head) = y := by rw [hhead, ← hlock]
  refine ⟨fun hst => ?_, fun hst => ?_⟩
  · have hfell := State.headDown_fell (s := u) (h := h) (f := .symbol) (lock := true) (by rw [hhead]; exact hst)
    rw [hy] at hfell
    refine ⟨_, hexec _ rfl hfell.frame.inReset hfell.frame.lp, ?_, ?_, ?_⟩
    · rw [State.transmit_flags]
      exact hfell.sync
    · rw [State.transmit_lt]
      exact hfell.frame.lt
    · rw [State.transmit_head]
      exact hfell.head
  · have hhunting := State.headDown_hunting (s := u) (h := h) (f := .symbol) (lock := true)
      (by rw [hhead]; exact hst)
    rw [hy, s.retuned_putHead] at hhunting
    exact hexec _ hhunting.symm rfl rfl

end

/-- Settles O30: the runs as the receiver hears them, and the fall by the head's state. -/
theorem headLinkLockAndSymbols : Obligations.HeadLinkLockAndSymbols := by
  intro s h hs x rd unended down
  refine ⟨fun hlock hst => ?_, fun hlock hst => ?_, fun gap bs bad rest run sym hlock hgap hrest hbs hbad hrun => ?_,
    fun bs bad rest run sym hlock hrest hbs hbad hrun => ?_, fun run sym hlock hrun => ⟨?_, ?_⟩,
    fun hlock => ⟨?_, fun inFrame run sym => ?_⟩, fun hst => ?_, fun hst => ?_⟩
  · have hloss : s.headLockLoss h = s.headDown h .lock false := if_pos hlock
    have hfell := State.headDown_fell (s := s) (h := h) (f := .lock) (lock := false) hst
    refine ⟨_, exec_headLockLoss hs hloss hfell.frame.inReset hfell.frame.lp, ?_, ?_, ?_⟩
    · rw [State.transmit_flags]
      exact hfell.sync
    · rw [State.transmit_lt]
      exact hfell.frame.lt
    · rw [State.transmit_head]
      exact hfell.head
  · have hloss : s.headLockLoss h = s.headDown h .lock false := if_pos hlock
    exact exec_headLockLoss hs (hloss.trans (State.headDown_hunting hst)) rfl rfl
  · have hhear (ended : Bool) := hear_framed_error sectionWhole rd gap rest bs bad hgap hrest
      (sectionWhole_false bs hbs) ended hbad
    rw [← hrun] at hhear
    have hruns (ended : Bool) := State.headHears_error hlock (hhear ended)
    exact ⟨exec_takesDown hlock fun u hu => exec_sectionFrameReceived hs ((hruns true).trans hu.symm),
      exec_takesDown hlock fun u hu => exec_headSymbolError hs ((hruns false).trans hu.symm)⟩
  · have hhear := hear_started_error sectionWhole rd rest bs bad hrest (sectionWhole_false bs hbs) false hbad
    rw [← hrun] at hhear
    exact exec_takesDown hlock fun u hu => exec_headSymbolError hs ((State.headHears_error hlock hhear).trans hu.symm)
  · exact exec_sectionFrameReceived hs
      (State.headHears_noStart hlock (fun y hy => hrun y (List.mem_append_left _ hy)) true) rfl rfl
  · exact exec_headSymbolError hs (State.headHears_noStart hlock hrun false) rfl rfl
  · have hkept : s.headLockLoss h = s := if_neg (Bool.not_eq_true _ ▸ hlock)
    exact exec_headLockLoss hs hkept rfl rfl
  · exact exec_headSymbolError hs (s.headHears_unlocked h inFrame false _ hlock) rfl rfl
  · refine exec_headLockGain hs (if_pos ?_) rfl rfl
    rw [Head.enabled_eq, decide_eq_true_eq]
    exact hst
  · refine exec_headLockGain hs (if_neg ?_) rfl rfl
    rw [Head.enabled_eq, decide_eq_true_eq]
    exact not_not.2 hst

end Sys2Proof.Machine
end

section
/-! A good frame placed in a pending section (R56): the slots after it, and the section that retires with it (R49, R50,
R57, R59, R61). -/

namespace Sys2Proof.Machine

/-! ### Placement (R56) -/

theorem HeadSet.has_add_other (hs : HeadSet) {h k : Fin 4} (hk : k ≠ h) :
    HeadSet.has (HeadSet.add hs h) k = HeadSet.has hs k := by
  have hbit : ∀ h k : Fin 4, k ≠ h → (BitVec.ofNat 4 (2 ^ h.val)).getLsbD k.val = false := by decide
  rw [HeadSet.has, HeadSet.add, BitVec.getLsbD_or, hbit h k hk, Bool.or_false]
  rfl

section
variable {h : Fin 4} {f : SecFrame} {p q : PendSlot}

/-- A slot with a frame of a head recorded. -/
def PendSlot.recorded (p : PendSlot) (h : Fin 4) (f : SecFrame) : PendSlot :=
  { p with frames := p.frames.put h (some f) }

/-- A slot with a head passed over. -/
def PendSlot.passedOver (p : PendSlot) (h : Fin 4) : PendSlot := { p with passed := HeadSet.add p.passed h }

theorem placeFrame_matching (hc : p.contrib = none) (hf : p.frames.get h = none) (rest : List PendSlot) :
    placeFrame h p.seq f (p :: rest) = p.recorded h f :: rest := by
  simp [placeFrame, hc, hf, PendSlot.recorded]

/-- An older slot passes the head over. -/
theorem placeFrame_older (hp : p.contrib = none) (hpf : p.frames.get h = none) (hne : q.seq ≠ p.seq)
    (hq : q.contrib = none) (hqf : q.frames.get h = none) :
    placeFrame h p.seq f [q, p] = [q.passedOver h, p.recorded h f] := by
  rw [placeFrame, if_neg hne, placeFrame_matching hp hpf, if_pos ⟨by simp, by rw [hq]; rfl, by rw [hqf]; rfl⟩]
  rfl

/-- A head other than the frame's is waited for by the same slots as before. -/
theorem State.waitsFor_recorded (s : State) (p : PendSlot) (f : SecFrame) (k : Fin 4) :
    s.waitsFor (p.recorded h f) k = true ↔ k ≠ h ∧ s.waitsFor p k = true := by
  rw [State.waitsFor_iff, State.waitsFor_iff]
  by_cases hk : k = h
  · subst hk
    simp [PendSlot.recorded]
  · simp [PendSlot.recorded, PerHead.get_put_other _ _ hk, hk]

theorem State.waitsFor_passedOver (s : State) (q : PendSlot) {k : Fin 4} (hk : k ≠ h) :
    s.waitsFor (q.passedOver h) k = s.waitsFor q k := by
  simp only [State.waitsFor, PendSlot.passedOver, HeadSet.has_add_other _ hk]

end

/-- A good frame of an ACTIVE head leaves the heads (R50). -/
theorem State.goodFrame_active {s : State} {h : Fin 4} (hst : (s.head h).status = .active) (g : GoodFrame) :
    s.goodFrame h g = (s.setSa { s.sa with pend := placeFrame h g.seq g.frame s.sa.pend }).settleSections := by
  have hhead : (s.head h).afterGood s.hl.recR (s.sa.inWindow g.seq) = s.head h := by simp only [Head.afterGood, hst]
  simp only [State.goodFrame, hhead, s.putHead_self]

/-! ### A slot that retires alone -/

section
variable {s : State} {p : PendSlot}

/-- The frame that a slot holds of a head, when the head is ACTIVE (R57). -/
def State.contributed (s : State) (p : PendSlot) (k : Fin 4) : Option SecFrame :=
  if (s.head k).status = .active then p.frames.get k else none

/-- The heads that contribute to a slot that becomes COMPLETE (R57). -/
theorem State.complete_contrib (s : State) (p : PendSlot) :
    (s.complete p).contrib = some (headSet fun k => (s.contributed p k).isSome) := by
  have hhead (k : Fin 4) : ((s.head k).isActive && (p.frames.get k).isSome) = (s.contributed p k).isSome := by
    by_cases hk : (s.head k).status = .active <;> simp [State.contributed, Head.isActive, hk]
  simp only [State.complete, hhead]

/-- What a set of contributing heads lets through is what they contributed. -/
theorem State.ite_contributed {α : Type} (s : State) (p : PendSlot) (k : Fin 4) (f : SecFrame → Option α) :
    (if HeadSet.has (headSet fun k => (s.contributed p k).isSome) k = true then (p.frames.get k).bind f else none) =
      (s.contributed p k).bind f := by
  rw [headSet_has]
  by_cases hk : (s.head k).status = .active
  · cases hf : p.frames.get k <;> simp [State.contributed, hk, hf]
  · simp [State.contributed, hk]

theorem State.readings_contributed (s u : State) (p : PendSlot) :
    readings (u.complete p) (headSet fun k => (s.contributed p k).isSome) =
      allHeads.filterMap fun k => (s.contributed p k).bind SecFrame.temp :=
  congrArg (List.filterMap · allHeads) (funext fun k => s.ite_contributed p k SecFrame.temp)

theorem State.headData_contributed (s : State) (p : PendSlot) (k : Fin 4) :
    s.headData p (headSet fun k => (s.contributed p k).isSome) k = (s.contributed p k).map fun f =>
      { points := f.points, ox := (s.head k).ox, oy := (s.head k).oy, scale := (s.head k).scale } := by
  have h := s.ite_contributed p k fun f => some ({
    points := f.points, ox := (s.head k).ox, oy := (s.head k).oy, scale := (s.head k).scale } : HeadData)
  simpa only [State.headData, Option.map_eq_bind, Function.comp_def] using h

/-- A section that is handed on: the contributing heads' points and calibration. -/
def State.handedSection (s : State) (p : PendSlot) (temp : Nat) (held : Bool) : Handed :=
  { seq := p.seq, coord := p.coord, temp := temp, held := held
    contrib := headSet fun k => (s.contributed p k).isSome
    heads := perHead fun k => (s.contributed p k).map fun f =>
      { points := f.points, ox := (s.head k).ox, oy := (s.head k).oy, scale := (s.head k).scale } }

/-- The only slot, waiting for no head, becomes COMPLETE and retires (R57, R59). -/
theorem State.settleSections_single (hpend : s.sa.pend = [p]) (hc : p.contrib = none)
    (hw : ¬ ∃ k, s.waitsFor p k = true) :
    s.settleSections = (s.setSa { s.sa with pend := [s.complete p] }).retire (s.complete p)
      (headSet fun k => (s.contributed p k).isSome) := by
  have htest : s.testSlots = s.setSa { s.sa with pend := [s.complete p] } := by
    rw [State.testSlots, hpend, List.map_singleton, State.testSlot_complete hc hw]
  rw [State.settleSections, htest]
  exact State.cascade_single rfl (s.complete_contrib p)

/-- What the retirement of the only slot leaves. -/
structure RetiredAlone (s : State) (p : PendSlot) (t : State) : Prop where
  frame : SectionFrame s t
  sections :
    let temps := allHeads.filterMap fun k => (s.contributed p k).bind SecFrame.temp
    let temp := if temps = [] then s.sa.heldTemp else (2 * temps.sum + temps.length) / (2 * temps.length)
    let unread := if temps = [] then min (s.sa.noReading + 1) 65535 else 0
    t.sa = { s.sa with pend := [], heldTemp := temp, noReading := unread } ∧
    t.ge.handed = s.ge.handed ++ [s.handedSection p temp (decide (temps = []))] ∧
    (temps = [] → unread = 200 → FlagSet.has t.au.flags .thermalHold = true)
  awaited : t.pt.awaited = s.pt.awaited ++ [p.coord]
  head : ∀ k, t.head k = Head.afterRetire s.hl.lostM (s.head k) (p.frames.get k).isSome
  headLost : ∀ k, (s.head k).status = .active → p.frames.get k = none → s.hl.lostM ≤ (s.head k).miss + 1 →
    FlagSet.has t.au.flags .headLost = true

theorem State.settleSections_retiredAlone (hpend : s.sa.pend = [p]) (hc : p.contrib = none)
    (hw : ¬ ∃ k, s.waitsFor p k = true) : RetiredAlone s p s.settleSections := by
  let u := s.setSa { s.sa with pend := [s.complete p] }
  let c := headSet fun k => (s.contributed p k).isSome
  have hread : readings (s.complete p) c = allHeads.filterMap fun k => (s.contributed p k).bind SecFrame.temp :=
    s.readings_contributed s p
  have hspec := u.sectionTemperature_spec (s.complete p) c
  rw [hread] at hspec
  obtain ⟨htemp, hheld, hsa⟩ := hspec
  obtain ⟨-, hawaited, hhanded⟩ := u.retire_hands (s.complete p) c
  have hdata : u.headData (s.complete p) c = fun k => (s.contributed p k).map fun f =>
      { points := f.points, ox := (s.head k).ox, oy := (s.head k).oy, scale := (s.head k).scale } :=
    funext fun k => s.headData_contributed p k
  rw [htemp, hheld, hdata] at hhanded
  have hframe := s.settleSections_frame
  rw [State.settleSections_single hpend hc hw] at hframe ⊢
  refine ⟨hframe, ⟨?_, hhanded, fun hnone hrun => ?_⟩, hawaited, u.retire_head _ c,
    fun k => State.retire_flag_headLost (s := u) (p := s.complete p)⟩
  · rw [u.retire_sa, hsa]
    rfl
  · refine State.retire_flag_thermalHold (s := u) (hread.trans hnone) ?_
    rwa [if_pos hnone] at hrun

end

/-- A head after a retirement, by what its slot holds (R49, R50). -/
theorem Head.afterRetire_eq (m : Nat) (x : Head) (frame : Option SecFrame) : x.afterRetire m frame.isSome =
    if x.status = .active ∧ frame = none then
      (if x.miss + 1 < m then { x with miss := x.miss + 1 } else { x with status := .lost, miss := 0, recov := 0 })
    else if x.status = .active then { x with miss := 0 }
    else if x.status = .lost ∧ frame = none then { x with recov := 0 }
    else x := by
  cases hst : x.status <;> cases frame <;> simp [Head.afterRetire, hst]

/-! ### Sections behind a change of one receiver's running disparity -/

section
variable (s : State) (h : Fin 4) (rd : Disparity) (a : Assembler) (p : PendSlot)

theorem State.retuned_fields (k : Fin 4) :
    ((s.retuned h rd).head k).status = (s.head k).status ∧ ((s.retuned h rd).head k).miss = (s.head k).miss ∧
    ((s.retuned h rd).head k).ox = (s.head k).ox ∧ ((s.retuned h rd).head k).oy = (s.head k).oy ∧
    ((s.retuned h rd).head k).scale = (s.head k).scale := by
  rw [s.retuned_head]
  exact ⟨rfl, rfl, rfl, rfl, rfl⟩

theorem State.contributed_retuned (k : Fin 4) :
    ((s.retuned h rd).setSa a).contributed p k = s.contributed p k := by
  have hstatus : (((s.retuned h rd).setSa a).head k).status = (s.head k).status := (s.retuned_fields h rd k).1
  rw [State.contributed, hstatus, State.contributed]

theorem State.handedSection_retuned (temp : Nat) (held : Bool) :
    ((s.retuned h rd).setSa a).handedSection p temp held = s.handedSection p temp held := by
  have hcal (k : Fin 4) : (((s.retuned h rd).setSa a).head k).ox = (s.head k).ox ∧
      (((s.retuned h rd).setSa a).head k).oy = (s.head k).oy ∧
      (((s.retuned h rd).setSa a).head k).scale = (s.head k).scale := (s.retuned_fields h rd k).2.2
  simp only [State.handedSection, s.contributed_retuned, hcal]

theorem State.waitsFor_retuned (k : Fin 4) : ((s.retuned h rd).setSa a).waitsFor p k = s.waitsFor p k := by
  have hstatus : (((s.retuned h rd).setSa a).head k).status = (s.head k).status := (s.retuned_fields h rd k).1
  simp only [State.waitsFor, Head.isActive, hstatus]

/-- The slot that has recorded the head's frame waits for a head when another was waited for. -/
theorem State.waits_recorded (f : SecFrame) :
    (∃ k, ((s.retuned h rd).setSa a).waitsFor (p.recorded h f) k = true) ↔ ∃ k, k ≠ h ∧ s.waitsFor p k = true :=
  exists_congr fun k => by rw [s.waitsFor_retuned, s.waitsFor_recorded]

end

/-- A good frame of an ACTIVE head: its placement, then the completion test and the cascade. -/
theorem State.sectionFrameEnds_good {s : State} {h : Fin 4} {gap : List Symbol} {bs : List Byte} {g : GoodFrame}
    (hlock : (s.head h).lock = true) (hgap : Rule.noStart gap) (hcheck : checkSectionFrame h bs = .ok g)
    (hst : (s.head h).status = .active) :
    let run := Rule.framed (s.head h).rxRd gap bs
    s.sectionFrameEnds h run = ((s.retuned h (Rule.heard (s.head h).rxRd run)).setSa
      { s.sa with pend := placeFrame h g.seq g.frame s.sa.pend }).settleSections :=
  (State.sectionFrameEnds_framed hlock hgap bs).trans ((State.sectionFrame_good hcheck).trans
    (State.goodFrame_active ((s.retuned_fields h _ h).1.trans hst) g))

/-- Settles O29: placement, the slots that still wait, and the section that retires alone. -/
theorem sectionFramePlaced : Obligations.SectionFramePlaced := by
  intro s h gap bs g p hs hgap hlock hcheck hst hseq hc hf run u p' waits
  let rd := Rule.heard (s.head h).rxRd run
  have hends : s.sectionFrameEnds h run =
      (u.setSa { s.sa with pend := placeFrame h g.seq g.frame s.sa.pend }).settleSections :=
    State.sectionFrameEnds_good hlock hgap hcheck hst
  have hwaits (q : PendSlot) : waits q ↔ ∃ k, k ≠ h ∧ s.waitsFor q k = true :=
    exists_congr fun k => and_congr_right fun _ => (s.waitsFor_iff q k).symm
  have hrecorded (a : Assembler) : (∃ k, (u.setSa a).waitsFor p' k = true) ↔ waits p :=
    (s.waits_recorded h rd a p g.frame).trans (hwaits p).symm
  rw [← hseq] at hends
  refine ⟨fun hpend hw => ?_, fun q hpend hne hqc hqf hqw hw => ?_, fun hpend hw => ?_⟩
  · rw [hpend, placeFrame_matching hc hf, State.settleSections_waiting] at hends
    · exact exec_sectionFrameReceived hs hends rfl rfl
    · intro r hr
      obtain rfl := List.mem_singleton.1 hr
      exact ⟨hc, (hrecorded _).2 hw⟩
  · rw [hpend, placeFrame_older hc hf (hseq ▸ hne) hqc hqf, State.settleSections_waiting] at hends
    · exact exec_sectionFrameReceived hs hends rfl rfl
    · intro r hr
      rcases List.mem_pair.1 hr with rfl | rfl
      · obtain ⟨k, hk, hkw⟩ := (hwaits q).1 hqw
        exact ⟨hqc, k, (s.waitsFor_retuned h rd _ _ k).trans ((s.waitsFor_passedOver q hk).trans hkw)⟩
      · exact ⟨hc, (hrecorded _).2 hw⟩
  · rw [hpend, placeFrame_matching hc hf] at hends
    intro frame temps mean temp unread missed
    let v := u.setSa { s.sa with pend := [p'] }
    have hretires : s.sectionFrameEnds h run = v.settleSections := hends
    have hret : RetiredAlone v p' v.settleSections :=
      State.settleSections_retiredAlone rfl hc (mt (hrecorded _).1 hw)
    have hfields (k : Fin 4) : (v.head k).status = (s.head k).status ∧ (v.head k).miss = (s.head k).miss := by
      obtain ⟨hstatus, hmiss, -⟩ := s.retuned_fields h rd k
      exact ⟨hstatus, hmiss⟩
    have hframe (k : Fin 4) : v.contributed p' k = frame k := s.contributed_retuned h rd _ p' k
    have hsection : v.handedSection p' = s.handedSection p' :=
      funext fun t => funext (s.handedSection_retuned h rd _ p' t)
    obtain ⟨hsa, hhanded, hhold⟩ := hret.sections
    simp only [hframe, hsection] at hsa hhanded hhold
    refine ⟨_, exec_sectionFrameReceived hs hretires hret.frame.inReset hret.frame.lp, ?_, ?_, ?_, ?_, fun k => ?_, ?_,
      ?_⟩
    · rw [State.transmit_sa]
      exact hsa
    · rw [State.transmit_ge]
      exact hhanded
    · rw [State.transmit_pt]
      exact hret.awaited
    · rw [State.transmit_lt]
      exact hret.frame.lt
    · rw [State.transmit_head, hret.head, Head.afterRetire_eq, (hfields k).1]
      simp only [missed, show (u.head k).status = (s.head k).status from (hfields k).1]
      rfl
    · rintro ⟨k, ⟨hk, hnone⟩, hmiss⟩
      obtain ⟨hstatus, hmisses⟩ := hfields k
      rw [State.transmit_flags]
      exact hret.headLost k (hstatus.trans hk) hnone (hmisses ▸ hmiss)
    · intro hnone hunread
      rw [State.transmit_flags]
      exact hhold hnone hunread

end Sys2Proof.Machine
end

section
/-! The probes of the Gauge Engine (R63, R66 to R73): its rounding as one division of integers, the value of a probe, and
its section coordinate. -/

namespace Sys2Proof.Machine

/-! ### Rounding half away from zero (R63) -/

/-- The quotient, plus one from a remainder of half the divisor on, is the rounded quotient. -/
theorem div_add_roundUp (n : Nat) {m : Nat} (hm : 0 < m) :
    n / m + (if m ≤ 2 * (n % m) then 1 else 0) = (2 * n + m) / (2 * m) := by
  have hdiv : m * (n / m) + n % m = n := Nat.div_add_mod n m
  have hmod : n % m < m := Nat.mod_lt n hm
  have hrem : 0 ≤ n % m := Nat.zero_le _
  symm
  split
  · exact Nat.div_eq_of_lt_le (by linarith) (by linarith)
  · exact Nat.div_eq_of_lt_le (by linarith) (by linarith)

theorem roundDiv_eq (n : Int) {m : Nat} (hm : 0 < m) : roundDiv n m =
    if n < 0 then -(((2 * n.natAbs + m) / (2 * m) : Nat) : Int) else (((2 * n.natAbs + m) / (2 * m) : Nat) : Int) := by
  rw [roundDiv, div_add_roundUp _ hm]

theorem roundDiv_natCast (n : Nat) {m : Nat} (hm : 0 < m) : roundDiv n m = ((2 * n + m) / (2 * m) : Nat) :=
  (roundDiv_eq n hm).trans (if_neg (Int.natCast_nonneg n).not_gt)

/-! ### The value of a probe (R66 to R70) -/

/-- The ranges of the points at `k` and `k + 1` of a walk differ by the step threshold (R68). -/
def EdgeJump (step : Nat) (walk : List Point) (k : Nat) : Prop :=
  ∃ m n, walk[k]? = some m ∧ walk[k + 1]? = some n ∧ (m.w + step ≤ n.w ∨ n.w + step ≤ m.w)

section
variable {step : Nat}

theorem edgeJump_zero {a b : Point} {rest : List Point} :
    EdgeJump step (a :: b :: rest) 0 ↔ step ≤ ((a.w : Int) - b.w).natAbs := by
  have hjump : EdgeJump step (a :: b :: rest) 0 ↔ a.w + step ≤ b.w ∨ b.w + step ≤ a.w := by simp [EdgeJump]
  rw [hjump]
  omega

theorem edgePair_of_jump {a b : Point} {rest : List Point} (h : EdgeJump step (a :: b :: rest) 0) :
    edgePair step (a :: b :: rest) = some (a, b) := if_pos (edgeJump_zero.1 h)

theorem edgePair_of_not_jump {a b : Point} {rest : List Point} (h : ¬ EdgeJump step (a :: b :: rest) 0) :
    edgePair step (a :: b :: rest) = edgePair step (b :: rest) := if_neg (mt edgeJump_zero.2 h)

/-- A walk without a jump has no edge pair. -/
theorem edgePair_eq_none : ∀ {walk : List Point}, (∀ k, ¬ EdgeJump step walk k) → edgePair step walk = none
  | [], _ => rfl
  | [_], _ => rfl
  | _ :: _ :: _, h => (edgePair_of_not_jump (h 0)).trans (edgePair_eq_none fun k => h (k + 1))

/-- The edge pair of a walk is the pair at its first jump. -/
theorem edgePair_eq_some {m n : Point} : ∀ {walk : List Point} {k : Nat}, EdgeJump step walk k →
    (∀ j < k, ¬ EdgeJump step walk j) → walk[k]? = some m → walk[k + 1]? = some n → edgePair step walk = some (m, n)
  | [], _, _, _, hm, _ => nomatch hm
  | [_], _, _, _, _, hn => nomatch hn
  | _ :: _ :: _, 0, hjump, _, hm, hn => by
    obtain ⟨rfl, rfl⟩ : _ = m ∧ _ = n := ⟨Option.some.inj hm, Option.some.inj hn⟩
    exact edgePair_of_jump hjump
  | _ :: _ :: _, k + 1, hjump, hfirst, hm, hn =>
    (edgePair_of_not_jump (hfirst 0 k.succ_pos)).trans
      (edgePair_eq_some (k := k) hjump (fun j hj => hfirst (j + 1) (Nat.succ_lt_succ hj)) hm hn)

end

/-- The valid points of an EDGE probe in its search direction (R68). -/
def ProbeRec.walk (r : ProbeRec) (valid : List Point) : List Point := if r.dir = 1 then valid.reverse else valid

theorem edgeValue_eq_none {r : ProbeRec} {valid : List Point} (h : ∀ k, ¬ EdgeJump r.step (r.walk valid) k) :
    edgeValue r valid = none := by
  rw [edgeValue, ← ProbeRec.walk, edgePair_eq_none h, Option.map_none]

/-- The value of an EDGE probe is the midpoint of the pair at the first jump, rounded down (R69). -/
theorem edgeValue_eq_some {r : ProbeRec} {valid : List Point} {k : Nat} {m n : Point}
    (hjump : EdgeJump r.step (r.walk valid) k) (hfirst : ∀ j < k, ¬ EdgeJump r.step (r.walk valid) j)
    (hm : (r.walk valid)[k]? = some m) (hn : (r.walk valid)[k + 1]? = some n) :
    edgeValue r valid = some ((m.u + n.u).fdiv 2) := by
  rw [edgeValue, ← ProbeRec.walk, edgePair_eq_some hjump hfirst hm hn, Option.map_some,
    Int.fdiv_eq_ediv_of_nonneg _ (by decide)]

/-- The value of a SURFACE probe with at least its minimum of valid points, and at least one (R67). -/
theorem surfaceValue_eq_some {r : ProbeRec} {valid : List Point} (hpos : 1 ≤ r.minPts) (h : r.minPts ≤ valid.length) :
    surfaceValue r valid =
      some (((2 * (valid.map Point.w).sum + valid.length) / (2 * valid.length) : Nat) : Int) := by
  have hlen : 0 < valid.length := hpos.trans h
  have hfew : ¬ (valid = [] ∨ valid.length < r.minPts) :=
    not_or.2 ⟨List.ne_nil_of_length_pos hlen, h.not_gt⟩
  rw [surfaceValue, if_neg hfew, roundDiv_natCast _ hlen]

theorem surfaceValue_eq_none {r : ProbeRec} {valid : List Point} (h : valid.length < r.minPts) :
    surfaceValue r valid = none := if_pos (.inr h)

/-! ### The coordinate of a probe (R70 to R73) -/

section
variable {c : Compiled} {sec : Handed} {p : CompiledProbe} {hd : HeadData}

/-- A head that does not contribute has no valid probe (R70). -/
theorem probeCoord_eq_none (h : HeadSet.has sec.contrib p.probe.head = false) : probeCoord c sec p = none := by
  simp [probeCoord, probeValue, h]

/-- The coordinate that a value of a probe gets by the scale and the pose of its head (R71, R72). -/
def CompiledProbe.place (p : CompiledProbe) (hd : HeadData) (v : Int) : Int :=
  posed p.quad p.probe.kind hd.ox hd.oy (scaled v hd.scale)

theorem probeCoord_surface (hhd : sec.heads.get p.probe.head = some hd)
    (hc : HeadSet.has sec.contrib p.probe.head = true) (hk : p.probe.kind = .surface) : probeCoord c sec p =
      (surfaceValue p.probe (hd.points.filter (pointValid c.minQuality p.probe))).map (p.place hd) := by
  simp only [probeCoord, probeValue, hc, hhd, hk, if_true]
  cases surfaceValue p.probe _ <;> simp [CompiledProbe.place, hk]

theorem probeCoord_edge (hhd : sec.heads.get p.probe.head = some hd)
    (hc : HeadSet.has sec.contrib p.probe.head = true) (hk : p.probe.kind = .edge) : probeCoord c sec p =
      (edgeValue p.probe (hd.points.filter (pointValid c.minQuality p.probe))).map (p.place hd) := by
  simp only [probeCoord, probeValue, hc, hhd, hk, if_true]
  cases edgeValue p.probe _ <;> simp [CompiledProbe.place, hk]

end

/-- Settles O37: by whether the head contributes and by the kind of the probe. -/
theorem probeCoordinateFormed : Obligations.ProbeCoordinateFormed := by
  intro c sec p hd hhd pts sum scale pose
  have hpose (v : Int) : pose v = posed p.quad p.probe.kind hd.ox hd.oy v := by
    obtain ⟨probe, quad⟩ := p
    cases hk : probe.kind <;> fin_cases quad <;> simp [pose, posed, hk]
  have hscale (v : Int) : scale v = scaled v hd.scale := by
    rw [scaled, roundDiv_eq _ (by decide)]
  have hplace (v : Int) : pose (scale v) = p.place hd v := by rw [hscale, hpose, CompiledProbe.place]
  refine ⟨probeCoord_eq_none, fun hc hk hpos => ?_, fun hc hk => ?_⟩
  · rw [probeCoord_surface hhd hc hk]
    refine ⟨fun hfew => ?_, fun h => ?_⟩
    · exact congrArg _ (surfaceValue_eq_none hfew)
    · rw [hplace]
      exact congrArg _ (surfaceValue_eq_some hpos h)
  · intro walk jump
    rw [probeCoord_edge hhd hc hk]
    refine ⟨fun hnone => ?_, fun k m n hjump hfirst hm hn => ?_⟩
    · exact congrArg _ (edgeValue_eq_none hnone)
    · rw [hplace]
      exact congrArg _ (edgeValue_eq_some hjump hfirst hm hn)

end Sys2Proof.Machine
end

section
/-! The entry of a gauge (R74 to R81) and the evaluation of a handed section (R65, R82). -/

namespace Sys2Proof.Machine

/-! ### The hot value (R74, R75) -/

section
variable {c : Compiled} {sec : Handed} {g : GaugeRec}

theorem hotValue_eq_none (h : coordOfProbe c sec g.a = none ∨
    (g.kind = .spanX ∨ g.kind = .spanY) ∧ g.b.bind (coordOfProbe c sec) = none) : hotValue c sec g = none := by
  rw [hotValue, GaugeKind.isSpan_eq]
  rcases h with ha | ⟨hspan, hb⟩
  · simp [ha]
  · simp only [hspan, hb]
    cases coordOfProbe c sec g.a <;> rfl

/-- The hot value of a POS gauge is its probe's distance above the datum. -/
theorem hotValue_pos {x : Int} (hkind : ¬ (g.kind = .spanX ∨ g.kind = .spanY)) (ha : coordOfProbe c sec g.a = some x) :
    hotValue c sec g = some (x - g.datum) := by
  simp [hotValue, GaugeKind.isSpan_eq, hkind, ha]

/-- The hot value of a SPAN gauge is the distance of its probes. -/
theorem hotValue_span {x y : Int} (hkind : g.kind = .spanX ∨ g.kind = .spanY) (ha : coordOfProbe c sec g.a = some x)
    (hb : g.b.bind (coordOfProbe c sec) = some y) : hotValue c sec g = some (if x < y then y - x else x - y) := by
  have hdist : ((x - y).natAbs : Int) = if x < y then y - x else x - y := by
    split <;> omega
  simp only [hotValue, GaugeKind.isSpan_eq, hkind, ha, hb, decide_true, if_true, hdist]

/-! ### Cold value, deviation and class (R76 to R81) -/

/-- In the ranges of R4 the divisor of R77 is positive. -/
theorem expansion_divisor_pos (hexp : c.expansion ≤ 5000) (href : c.tRef ≤ 400) (temp : Nat) :
    0 < 1000000000 + expansionOf c temp := by
  have hlow : -400 ≤ (temp : Int) - c.tRef := by omega
  rw [expansionOf]
  nlinarith

/-- The cold value as one division of integers, rounded half away from zero (R77). -/
theorem coldValue_eq {e : Int} (he : 0 < 1000000000 + e) (hot : Int) :
    let d := 1000000000 + e
    let size := (2 * hot.natAbs * 1000000000 + d) / (2 * d)
    coldValue e hot = if hot < 0 then -size else size := by
  intro d size
  obtain ⟨m, hm⟩ : ∃ m : Nat, d = m := ⟨d.toNat, (Int.toNat_of_nonneg he.le).symm⟩
  have hmpos : 0 < m := by omega
  have hsize : size = ((2 * (hot * 1000000000).natAbs + m) / (2 * m) : Nat) := by
    have hnum : 2 * (hot.natAbs : Int) * 1000000000 + d = ((2 * (hot * 1000000000).natAbs + m : Nat) : Int) := by omega
    rw [Int.natCast_ediv, ← hnum, Nat.cast_mul, ← hm, Nat.cast_ofNat]
  rw [coldValue, show (1000000000 + e).toNat = m by omega, roundDiv_eq _ hmpos, hsize]
  exact if_congr (by omega) rfl rfl

theorem coldValue_nonneg (e : Int) {hot : Int} (h : 0 ≤ hot) : 0 ≤ coldValue e hot := by
  rw [coldValue, roundDiv, if_neg (by omega)]
  exact Int.natCast_nonneg _

/-- The cold value clamped by the kind of the gauge (R78). -/
theorem clampInt_cold {raw : Int} {span : Prop} [Decidable span] (h : span → 0 ≤ raw) :
    clampInt (if decide span then 0 else -999999) 999999 raw =
      if span then min raw 999999 else max (-999999) (min raw 999999) := by
  rw [clampInt, min_comm]
  by_cases hspan : span
  · simp [hspan, h hspan]
  · simp [hspan]

theorem warnHigh_eq (h : 0 ≤ g.tolHi) : warnHigh g = ((g.tolHi.natAbs * g.warn / 100 : Nat) : Int) := by
  obtain ⟨n, hn⟩ := Int.eq_ofNat_of_zero_le h
  rw [warnHigh, hn]
  rfl

theorem warnLow_eq (h : g.tolLo ≤ 0) : warnLow g = -((g.tolLo.natAbs * g.warn / 100 : Nat) : Int) := by
  obtain ⟨n, hn⟩ := Int.exists_eq_neg_ofNat h
  rw [warnLow, hn, Int.neg_mul, Int.neg_tdiv, Int.natAbs_neg]
  rfl

end

/-- Settles O36: by the hot value, none or formed by the kind of the gauge. -/
theorem gaugeEntryFormed : Obligations.GaugeEntryFormed := by
  intro c sec i g hexp href _ hlo hhi _ a b span
  refine ⟨fun hnone => by rw [gaugeEntry, hotValue_eq_none hnone], fun x hot ha hspan hpos => ?_⟩
  intro d size raw cold dev wl wh
  have hhot : hotValue c sec g = some hot := by
    by_cases hk : span
    · obtain ⟨y, hb, rfl⟩ := hspan hk
      exact hotValue_span hk ha hb
    · rw [hpos hk]
      exact hotValue_pos hk ha
  have hraw : coldValue (expansionOf c sec.temp) hot = raw := coldValue_eq (expansion_divisor_pos hexp href sec.temp) hot
  have hcold : clampInt (if g.kind.isSpan then 0 else -999999) 999999 raw = cold := by
    rw [GaugeKind.isSpan_eq]
    refine clampInt_cold fun hk => ?_
    obtain ⟨y, -, hy⟩ := hspan hk
    exact hraw ▸ coldValue_nonneg _ (by split at hy <;> omega)
  have hdev : clampInt (-999999) 999999 (cold - g.nominal) = dev := by rw [clampInt, min_comm]
  have hsat : (cold != raw || dev != cold - g.nominal) = decide (cold ≠ raw ∨ dev ≠ cold - g.nominal) := by
    rw [Bool.eq_iff_iff, Bool.or_eq_true, bne_iff_ne, bne_iff_ne, decide_eq_true_iff]
  simp only [gaugeEntry, hhot, hraw, hcold, hdev, hsat, classify, warnLow_eq hlo, warnHigh_eq hhi, wl, wh]

/-! ### The evaluation of a section (R65, R82) -/

/-- The entries of a result are those of the enabled gauges, in ascending order of index (R82). -/
theorem gaugeEntries_eq (c : Compiled) (sec : Handed) : ∀ (k : Nat) (gs : List GaugeRec), gaugeEntries c sec k gs =
    ((gs.zipIdx k).filter fun x => x.1.enabledByte != 0).map fun x => gaugeEntry c sec x.2 x.1
  | _, [] => rfl
  | k, g :: gs => by
    rw [gaugeEntries, gaugeEntries_eq c sec (k + 1) gs, List.zipIdx_cons, List.filter_cons, GaugeRec.enabled]
    split <;> rfl

theorem State.evaluateNext_some {s : State} {sec : Handed} {rest : List Handed} {c : Compiled}
    (hhand : s.ge.handed = sec :: rest) (hcomp : s.ge.compiled = some c) : s.evaluateNext =
      (s.setGe { s.ge with handed := rest }).setPt { s.pt with results := s.pt.results ++ [evaluate c sec] } := by
  rw [State.evaluateNext, hhand, hcomp]
  rfl

theorem State.evaluateNext_idle {s : State} (h : s.ge.handed = []) : s.evaluateNext = s := by
  rw [State.evaluateNext, h]

/-- Settles O35: by whether a section is handed. -/
theorem sectionEvaluated : Obligations.SectionEvaluated := by
  intro s hs
  refine ⟨fun sec rest c hhand hcomp => ?_, fun hnone => ?_⟩
  · rw [← gaugeEntries_eq c sec 0]
    exact event_eq_of_drained hs (State.evaluateNext_some hhand hcomp) rfl rfl
  · exact event_eq_of_drained hs (State.evaluateNext_idle hnone) rfl rfl

end Sys2Proof.Machine
end

section
/-! The completion of a compilation (R64, R137, R138), and what the work along the profile keeps of an open piece and,
outside a halt, of the Context Controller (R104, R105, R132). -/

namespace Sys2Proof.Machine

/-! ### What the work along the profile keeps outside a halt -/

/-- Outside a halt the Context Controller stays as it stands. -/
def ContextKept (s t : State) : Prop := s.cc.engine ≠ .halting → t.cc = s.cc

theorem ContextKept.of_cc {s t : State} (h : t.cc = s.cc) : ContextKept s t := fun _ => h

theorem ContextKept.trans {s t u : State} (h : ContextKept s t) (k : ContextKept t u) : ContextKept s u := fun hs =>
  (k (h hs ▸ hs)).trans (h hs)

theorem ContextKept.after {s u t : State} (k : ContextKept u t) (h : u.cc = s.cc) : ContextKept s t :=
  (ContextKept.of_cc h).trans k

theorem State.dropOldest_cc (s : State) : s.dropOldest.cc = s.cc := by
  unfold State.dropOldest
  split <;> rfl

theorem State.appendReport_cc (s : State) (r : Report) : (s.appendReport r).cc = s.cc := by
  unfold State.appendReport
  dsimp only
  split
  · rfl
  · exact s.dropOldest_cc

theorem State.noteClose_contextKept (s : State) : ContextKept s s.noteClose := fun hs => by
  rw [State.noteClose, if_neg hs]

theorem State.openPiece_cc (s : State) (p : Nat) (continued : Bool) : (s.openPiece p continued).cc = s.cc := by
  unfold State.openPiece
  dsimp only
  split
  · exact s.dropOldest_cc
  · rfl

theorem State.closePiece_contextKept (s : State) (r : CloseReason) (e : Nat) : ContextKept s (s.closePiece r e) := by
  unfold State.closePiece
  split
  · exact .of_cc rfl
  · dsimp only
    split
    · exact .of_cc (State.appendReport_cc _ _)
    · exact (State.noteClose_contextKept _).after (State.appendReport_cc _ _)

/-- An open piece stays open or is followed by another, and outside a halt the Context Controller stays. -/
structure PieceStays (s t : State) : Prop where
  piece : s.pt.piece.isSome = true → t.pt.piece.isSome = true
  context : ContextKept s t

theorem PieceStays.refl (s : State) : PieceStays s s := ⟨id, .of_cc rfl⟩

theorem PieceStays.of_eq {s t : State} (h : t.pt.piece = s.pt.piece) (hcc : t.cc = s.cc) : PieceStays s t :=
  ⟨fun hs => h ▸ hs, .of_cc hcc⟩

theorem PieceStays.of_some {s t : State} (h : t.pt.piece.isSome = true) (hcc : ContextKept s t) : PieceStays s t :=
  ⟨fun _ => h, hcc⟩

theorem PieceStays.trans {s t u : State} (h : PieceStays s t) (k : PieceStays t u) : PieceStays s u :=
  ⟨fun hs => k.piece (h.piece hs), h.context.trans k.context⟩

/-- What comes behind a change that leaves the open piece and the Context Controller. -/
theorem PieceStays.after {s u t : State} (k : PieceStays u t) (h : u.pt.piece = s.pt.piece) (hcc : u.cc = s.cc) :
    PieceStays s t := (PieceStays.of_eq h hcc).trans k

theorem PieceStays.foldl {α : Type} (f : State → α → State) (hf : ∀ s a, PieceStays s (f s a)) (l : List α)
    (s : State) : PieceStays s (l.foldl f s) :=
  List.foldlRecOn l f (.refl s) fun t ht a _ => ht.trans (hf t a)

theorem State.mapPiece_stays (s : State) (f : Piece → Piece) : PieceStays s (s.mapPiece f) :=
  ⟨fun hs => Option.isSome_map.trans hs, .of_cc rfl⟩

/-- A piece that closes and the one that opens behind it (R118, R120). -/
theorem State.reopen_stays (s : State) (r : CloseReason) (e p : Nat) (continued : Bool) :
    PieceStays s ((s.closePiece r e).openPiece p continued) :=
  .of_some rfl ((s.closePiece_contextKept r e).trans (.of_cc (State.openPiece_cc _ _ _)))

theorem State.applyBoundary_stays (s : State) (e : Nat) : PieceStays s (s.applyBoundary e) := by
  unfold State.applyBoundary
  split
  · exact .refl s
  · split
    · dsimp only
      split
      · exact .of_some rfl (s.noteClose_contextKept.trans (.of_cc rfl))
      · refine .of_some rfl (s.noteClose_contextKept.trans (.of_cc ?_))
        split <;> rfl
    · exact s.reopen_stays _ _ _ _

theorem State.boundaryAt_stays (s : State) (y : Nat) : PieceStays s (s.boundaryAt y) := by
  unfold State.boundaryAt
  split
  · exact .refl s
  · split
    · exact s.applyBoundary_stays y
    · exact .refl s

theorem State.applyZone_stays (s : State) (y : Nat) (m : Mark) : PieceStays s (s.applyZone y m) :=
  by
  unfold State.applyZone
  refine PieceStays.after (State.mapPiece_stays _ _) rfl ?_
  split <;> rfl

theorem State.applyCut_stays (s : State) (x : Nat) (est : Bool) : PieceStays s (s.applyCut x est) := by
  cases est
  · exact s.reopen_stays _ _ _ _
  · exact ((s.mapPiece_stays _).trans (State.reopen_stays _ _ _ _ _)).trans (State.mapPiece_stays _ _)

theorem State.applyAt_stays (s : State) (y : Nat) : PieceStays s (s.applyAt y) := by
  unfold State.applyAt
  refine PieceStays.trans ?_ (PieceStays.foldl _ (fun s m => s.applyZone_stays y m) _ _)
  refine PieceStays.trans ?_ (State.boundaryAt_stays _ _)
  exact (PieceStays.foldl _ (fun s (m : Mark) => s.applyCut_stays y m.est) _ _).after rfl rfl

theorem State.walk_stays : ∀ (n : Nat) (s : State) (y limit : Nat), PieceStays s (State.walk n s y limit)
  | 0, s, _, _ => .refl s
  | n + 1, s, y, limit => by
    unfold State.walk
    split
    · exact .refl s
    · exact (s.applyAt_stays _).trans (State.walk_stays n _ _ _)

theorem State.offerMatch_stays (s : State) (a b : Nat) : PieceStays s (s.offerMatch a b) := by
  unfold State.offerMatch
  split
  · exact .refl s
  · split
    · exact .of_eq rfl rfl
    · exact .refl s

theorem State.advance_stays (s : State) : PieceStays s s.advance := by
  unfold State.advance State.advanceTo
  split
  · refine PieceStays.trans ?_ (State.offerMatch_stays _ _ _)
    exact (State.walk_stays _ s _ _).trans (.of_eq rfl rfl)
  · exact .refl s

/-! ### Sets of heads -/

/-- Whether a head is in one set and not in another. -/
theorem HeadSet.has_diff (a b : HeadSet) (h : Fin 4) :
    HeadSet.has (a &&& ~~~b) h = (HeadSet.has a h && !HeadSet.has b h) := by
  simp [HeadSet.has, h.isLt]

theorem HeadSet.eq_zero_iff (a : HeadSet) : a = 0 ↔ ∀ h, HeadSet.has a h = false := by
  refine ⟨fun ha h => ?_, fun h => BitVec.eq_of_getLsbD_eq fun i hi => ?_⟩
  · rw [ha]
    exact BitVec.getLsbD_zero
  · exact (h ⟨i, hi⟩).trans BitVec.getLsbD_zero.symm

/-! ### The outcome of a switch (R138) -/

section
variable (s : State) (c : Compiled)

/-- The missing heads are the referenced ones that are not ACTIVE. -/
theorem State.outcomeOf_missing (h : Fin 4) : HeadSet.has (s.outcomeOf c).missing h = true ↔
    HeadSet.has c.referenced h = true ∧ (s.head h).status ≠ .active := by
  rw [State.outcomeOf, HeadSet.has_diff, headSet_has, Bool.and_eq_true, Bool.not_eq_true', Bool.eq_false_iff, ne_eq,
    Head.isActive_iff]

theorem State.outcomeOf_kind : (s.outcomeOf c).kind =
    if ∀ h, HeadSet.has (s.outcomeOf c).missing h = false then .clean else .degraded :=
  if_congr (HeadSet.eq_zero_iff _) rfl rfl

end

/-! ### The completion of a compilation (R137) -/

/-- The next grid point where a whole pitch still fits above the live coordinate (R37, R38). -/
theorem gridAbove_of_room {pitch live : Nat} (h : live + pitch ≤ 4294967295) :
    gridAbove pitch live = some ((live / pitch + 1) * pitch) := by
  have hfloor : live / pitch * pitch ≤ live := Nat.div_mul_le_self live pitch
  have hpoint : (live / pitch + 1) * pitch ≤ 4294967295 := by
    rw [Nat.add_mul, Nat.one_mul]
    omega
  exact if_pos hpoint

/-- The state in which a completed compilation opens the first piece. -/
def State.compiled (s : State) (i : Fin 8) : State :=
  let c := compile (s.dieSlot i) s.lt.geom.quad
  ((s.setGe { s.ge with compiled := some c }).setCc
    { s.cc with outcome := s.outcomeOf c, engine := .ready, compileBy := none }).setLt
    (s.lt.takeGrid (s.dieSlot i).record)

theorem State.compilationDone_eq {s : State} {i : Fin 8} (he : s.cc.engine = .switching) (hi : s.cc.active = some i) :
    s.compilationDone = (((s.compiled i).openPiece 0 false).advance).raise .switchDone := by
  have hrecord (o : SwitchOutcome) (e : EngineState) (x : Option Nat) (g : GaugeEngine) : State.params
      ((s.setGe g).setCc { s.cc with outcome := o, engine := e, compileBy := x }) = (s.dieSlot i).record := by
    simp only [State.params, State.setCc_cc, hi]
    rfl
  simp only [State.compilationDone, he, hi]
  exact congrArg (fun par => ((State.openPiece (State.setLt _ (s.lt.takeGrid par)) 0 false).advance).raise .switchDone)
    (hrecord _ _ _ _)

theorem State.compilationDone_idle {s : State} (h : s.cc.engine ≠ .switching) : s.compilationDone = s := by
  unfold State.compilationDone
  split
  · contradiction
  · rfl

/-- What stands when the compilation is done: READY with the compiled copy, an open piece, and SWITCH_DONE. -/
structure Completed (u t : State) : Prop where
  frame : PieceFrame u t
  cc : t.cc = u.cc
  piece : t.pt.piece.isSome = true
  flag : FlagSet.has t.au.flags .switchDone = true

theorem State.compilationDone_completed {s : State} {i : Fin 8} (he : s.cc.engine = .switching)
    (hi : s.cc.active = some i) : Completed (s.compiled i) s.compilationDone := by
  rw [State.compilationDone_eq he hi]
  have hstays := ((s.compiled i).openPiece 0 false).advance_stays
  have hopen : ((s.compiled i).openPiece 0 false).cc = (s.compiled i).cc := State.openPiece_cc _ _ _
  have hready : ((s.compiled i).openPiece 0 false).cc.engine ≠ .halting := by
    rw [hopen]
    exact EngineState.noConfusion
  exact ⟨((State.openPiece_frame _ _ _).trans (State.advance_frame _)).trans (State.raise_frame _ _),
    (hstays.context hready).trans hopen, hstays.piece rfl, State.raise_has _ _⟩

theorem exec_compilationComplete {s : State} (hs : s.Drained) :
    exec .compilationComplete s = .next s.compilationDone.transmit := by
  obtain ⟨hreset, hlp, -⟩ := s.compilationDone_blocks
  exact event_eq_of_drained (f := State.compilationDone) hs rfl hreset hlp

/-- Settles O41: by whether a compilation runs. -/
theorem compilationCompleted : Obligations.CompilationCompleted := by
  intro s hs
  refine ⟨fun hidle => ?_, fun i par he hi hpar => ?_⟩
  · rw [exec_compilationComplete hs, State.compilationDone_idle hidle]
  · intro c missing
    have hdone := State.compilationDone_completed he hi
    have hrecord : (s.dieSlot i).record = par := by rw [DieSlot.record, hpar, Option.getD_some]
    have hc : compile (s.dieSlot i) s.lt.geom.quad = c := by rw [compile, hrecord]
    have hge : s.compilationDone.ge.compiled = some c := by rw [hdone.frame.ge, ← hc]; rfl
    have hlt : s.compilationDone.lt = s.lt.takeGrid par := by rw [hdone.frame.lt, ← hrecord]; rfl
    have hcc : s.compilationDone.cc =
        { s.cc with outcome := s.outcomeOf c, engine := .ready, compileBy := none } := by rw [hdone.cc, ← hc]; rfl
    have hmissing (h : Fin 4) : HeadSet.has (s.outcomeOf c).missing h = true ↔ missing h := s.outcomeOf_missing c h
    refine ⟨_, exec_compilationComplete hs, ?_⟩
    simp only [State.transmit_ge, State.transmit_cc, State.transmit_lt, State.transmit_pt, State.transmit_flags, hge,
      hcc, hlt]
    refine ⟨trivial, trivial, trivial, hi, rfl, rfl, rfl, hmissing, fun hnone => ?_, fun hsome => ?_, rfl, rfl, rfl,
      fun _ => gridAbove_of_room, hdone.piece, hdone.flag⟩
    · rw [State.outcomeOf_kind]
      exact if_pos fun h => Bool.eq_false_iff.2 (mt (hmissing h).1 (hnone h))
    · rw [State.outcomeOf_kind]
      obtain ⟨h, hh⟩ := hsome
      exact if_neg fun hnone => Bool.eq_false_iff.1 (hnone h) ((hmissing h).2 hh)

end Sys2Proof.Machine
end

section
/-! What a step keeps, packaged once: a relation that the work of the sections and the rows keep holds between the
states before and after every step. -/

namespace Sys2Proof.Machine

/-! ### Changes beside the profile -/

/-- The Press Tracker, the Piece Tracker, the Context Controller and the Report Queue stay as they stand. -/
structure Beside (s t : State) : Prop where
  pk : t.pk = s.pk
  pt : t.pt = s.pt
  cc : t.cc = s.cc
  rq : t.rq = s.rq

theorem Beside.refl (s : State) : Beside s s := ⟨rfl, rfl, rfl, rfl⟩

theorem Beside.trans {s t u : State} (h : Beside s t) (k : Beside t u) : Beside s u :=
  ⟨k.pk.trans h.pk, k.pt.trans h.pt, k.cc.trans h.cc, k.rq.trans h.rq⟩

theorem State.raise_beside (s : State) (f : AlertFlag) : Beside s (s.raise f) := ⟨rfl, rfl, rfl, rfl⟩

theorem State.sectionTemperature_beside (s : State) (p : PendSlot) (c : HeadSet) :
    Beside s (s.sectionTemperature p c).2.2 := by
  unfold State.sectionTemperature
  split
  · dsimp only
    split <;> exact ⟨rfl, rfl, rfl, rfl⟩
  · exact ⟨rfl, rfl, rfl, rfl⟩

theorem State.countMisses_beside (s : State) (p : PendSlot) : Beside s (s.countMisses p) := by
  unfold State.countMisses
  dsimp only
  split <;> exact ⟨rfl, rfl, rfl, rfl⟩

theorem State.noteLimit_beside (s : State) : Beside s s.noteLimit := by
  unfold State.noteLimit
  split <;> exact ⟨rfl, rfl, rfl, rfl⟩

theorem State.gridDecide_beside (s : State) (c : Nat) : Beside s (s.gridDecide c) := by
  unfold State.gridDecide
  split
  · split
    · exact .refl s
    · dsimp only
      split <;> exact ⟨rfl, rfl, rfl, rfl⟩
  · exact .refl s

theorem State.headLockGain_beside (s : State) (h : Fin 4) : Beside s (s.headLockGain h) := by
  unfold State.headLockGain
  split <;> exact ⟨rfl, rfl, rfl, rfl⟩

theorem State.goodCommand_beside (s : State) (code tag : Byte) (p : List Byte) : Beside s (s.goodCommand code tag p) := by
  unfold State.goodCommand
  split <;> exact ⟨rfl, rfl, rfl, rfl⟩

theorem State.lineFinds_beside (s : State) (e : LinkEvent) : Beside s (s.lineFinds e) := by
  cases e with
  | symbolError => exact ⟨rfl, rfl, rfl, rfl⟩
  | frame bs =>
    simp only [State.lineFinds, State.lineFrame]
    split
    · exact ⟨rfl, rfl, rfl, rfl⟩
    · exact s.goodCommand_beside _ _ _

theorem State.lineHears_beside (s : State) (inFrame ended : Bool) (run : List Symbol) :
    Beside s (s.lineHears inFrame ended run) := by
  unfold State.lineHears
  dsimp only
  split
  · exact List.foldlRecOn _ State.lineFinds ⟨rfl, rfl, rfl, rfl⟩ fun t ht e _ => ht.trans (t.lineFinds_beside e)
  · exact .refl s

theorem State.lineLockLoss_beside (s : State) (inFrame : Bool) : Beside s (s.lineLockLoss inFrame) := by
  unfold State.lineLockLoss
  split
  · dsimp only
    split <;> exact ⟨rfl, rfl, rfl, rfl⟩
  · exact .refl s

theorem State.transmit_beside (s : State) : Beside s s.transmit :=
  ⟨s.transmit_pk, s.transmit_pt, s.transmit_cc, s.transmit_rq⟩

theorem State.offerTrace_beside (s : State) (r : SecResult) : Beside s (s.offerTrace r) := by
  unfold State.offerTrace
  (repeat' split) <;> exact ⟨rfl, rfl, rfl, rfl⟩

theorem State.setGeometry_beside (s : State) (p : List Byte) : Beside s (s.setGeometry p).st := by
  unfold State.setGeometry
  (repeat' split) <;> exact ⟨rfl, rfl, rfl, rfl⟩

theorem State.setHeadCal_beside (s : State) (h : Byte) (x y z : Int) : Beside s (s.setHeadCal h x y z).st := by
  unfold State.setHeadCal
  (repeat' split) <;> exact ⟨rfl, rfl, rfl, rfl⟩

theorem State.setMatch_beside (s : State) (action coord : Nat) : Beside s (s.setMatch action coord).st := by
  unfold State.setMatch
  (repeat' split) <;> exact ⟨rfl, rfl, rfl, rfl⟩

/-! ### Commands that reach the Context Controller alone -/

/-- The commands of the die slots and of the directory, START and HALT. -/
def reachesContext : Command → Bool
  | .openSlot | .writeParams | .writeProbesFirst | .writeProbesNext | .writeGaugesFirst | .writeGaugesNext | .sealSlot
  | .eraseSlot | .querySlot | .mapDie | .unmapDie | .start | .halt => true
  | _ => false

theorem State.onSlot_context (s : State) (p : List Byte) {f : Fin 8 → Answer}
    (h : ∀ i, ∃ x, (f i).st = s.setCc x) : ∃ x, (s.onSlot p f).st = s.setCc x := by
  unfold State.onSlot
  split
  · exact h _
  · exact ⟨s.cc, rfl⟩

theorem State.writeProbes_context (s : State) (i : Fin 8) (start : Nat) (r : List (List Byte)) :
    ∃ x, (s.writeProbes i start r).st = s.setCc x := by
  unfold State.writeProbes
  dsimp only
  (repeat' split) <;> exact ⟨_, rfl⟩

theorem State.writeGauges_context (s : State) (i : Fin 8) (start : Nat) (r : List (List Byte)) :
    ∃ x, (s.writeGauges i start r).st = s.setCc x := by
  unfold State.writeGauges
  dsimp only
  (repeat' split) <;> exact ⟨_, rfl⟩

theorem State.runCommand_context (s : State) {c : Command} (hc : reachesContext c = true) (a : Nat) (p : List Byte) :
    ∃ x, (s.runCommand c a p).st = s.setCc x := by
  cases c
  case openSlot =>
    refine s.onSlot_context p fun i => ?_
    simp only [State.openSlot]
    (repeat' split) <;> exact ⟨_, rfl⟩
  case writeParams =>
    refine s.onSlot_context p fun i => ?_
    simp only [State.writeParams]
    (repeat' split) <;> exact ⟨_, rfl⟩
  case writeProbesFirst => exact s.onSlot_context p fun i => s.writeProbes_context i _ _
  case writeProbesNext => exact s.onSlot_context p fun i => s.writeProbes_context i _ _
  case writeGaugesFirst => exact s.onSlot_context p fun i => s.writeGauges_context i _ _
  case writeGaugesNext => exact s.onSlot_context p fun i => s.writeGauges_context i _ _
  case sealSlot =>
    refine s.onSlot_context p fun i => ?_
    simp only [State.sealSlot]
    (repeat' split) <;> exact ⟨_, rfl⟩
  case eraseSlot =>
    refine s.onSlot_context p fun i => ?_
    simp only [State.eraseSlot]
    (repeat' split) <;> exact ⟨_, rfl⟩
  case querySlot => exact s.onSlot_context p fun i => ⟨s.cc, rfl⟩
  case mapDie =>
    simp only [State.runCommand, State.mapDie]
    (repeat' split) <;> exact ⟨_, rfl⟩
  case unmapDie =>
    simp only [State.runCommand, State.unmapDie]
    (repeat' split) <;> exact ⟨_, rfl⟩
  case start =>
    simp only [State.runCommand, State.startEngine]
    split <;> exact ⟨_, rfl⟩
  case halt =>
    simp only [State.runCommand, State.haltEngine]
    split <;> exact ⟨_, rfl⟩
  all_goals cases hc

/-! ### Laws of the work of the sections -/

/-- A relation between states that changes beside the profile keep, as do the coordinates passed on to the Piece Tracker and
the advance of the settled coordinate. -/
structure SectionLaw (R : State → State → Prop) : Prop where
  trans : ∀ {s t u}, R s t → R t u → R s u
  beside : ∀ {s t}, Beside s t → R s t
  passing : ∀ (s : State) (presented : Nat) (awaited : List Nat) (results : List SecResult),
    R s (s.setPt { s.pt with presented := presented, awaited := awaited, results := results })
  advance : ∀ s : State, R s s.advance

section
variable {R : State → State → Prop}

theorem SectionLaw.refl (law : SectionLaw R) (s : State) : R s s := law.beside (.refl s)

/-- Changes of the blocks beside the profile, each by its own update. -/
theorem SectionLaw.after (law : SectionLaw R) {s u t : State} (k : R u t) (hpk : u.pk = s.pk) (hpt : u.pt = s.pt)
    (hcc : u.cc = s.cc) (hrq : u.rq = s.rq) : R s t := law.trans (law.beside ⟨hpk, hpt, hcc, hrq⟩) k

theorem SectionLaw.foldl {α : Type} (law : SectionLaw R) (f : State → α → State) (hf : ∀ s a, R s (f s a)) (l : List α)
    (s : State) : R s (l.foldl f s) :=
  List.foldlRecOn l f (law.refl s) fun t ht a _ => law.trans ht (hf t a)

theorem SectionLaw.retire (law : SectionLaw R) (s : State) (p : PendSlot) (c : HeadSet) : R s (s.retire p c) := by
  unfold State.retire
  have htemp := s.sectionTemperature_beside p c
  generalize s.sectionTemperature p c = r at htemp
  obtain ⟨temp, held, u⟩ := r
  refine law.trans (law.beside htemp) ?_
  have hhand : R u (u.hand p c temp held) := law.after (u := u.setGe (u.hand p c temp held).ge)
    (law.passing _ u.pt.presented (u.pt.awaited ++ [p.coord]) u.pt.results) rfl rfl rfl rfl
  refine law.trans hhand ?_
  refine law.trans (law.beside (State.countMisses_beside _ p)) ?_
  exact law.after (law.advance _) rfl rfl rfl rfl

theorem SectionLaw.retireUpTo (law : SectionLaw R) : ∀ (n : Nat) (s : State), R s (State.retireUpTo n s)
  | 0, s => law.refl s
  | n + 1, s => by
    unfold State.retireUpTo
    split
    · split
      · exact law.trans (law.retire s _ _) (law.retireUpTo n _)
      · exact law.refl s
    · exact law.refl s

theorem SectionLaw.cascade (law : SectionLaw R) (s : State) : R s s.cascade := law.retireUpTo _ s

theorem SectionLaw.settleSections (law : SectionLaw R) (s : State) : R s s.settleSections :=
  law.after (law.cascade _) rfl rfl rfl rfl

theorem SectionLaw.expireSlot (law : SectionLaw R) (s : State) (n : Seq) : R s (s.expireSlot n) :=
  law.after (law.cascade _) rfl rfl rfl rfl

theorem SectionLaw.evaluateNext (law : SectionLaw R) (s : State) : R s s.evaluateNext := by
  unfold State.evaluateNext
  split
  · exact law.after (law.passing _ s.pt.presented s.pt.awaited _) rfl rfl rfl rfl
  · exact law.refl s

/-! Wheel counts. -/

theorem SectionLaw.liveChanged (law : SectionLaw R) (s : State) : R s s.liveChanged := by
  rw [s.liveChanged_eq]
  refine law.trans ?_ (law.cascade _)
  refine law.trans (law.beside (s.noteLimit_beside.trans (State.gridDecide_beside _ s.lt.live))) ?_
  exact law.trans (law.passing _ s.lt.live _ _) (law.advance _)

theorem SectionLaw.forwardCount (law : SectionLaw R) (s : State) : R s s.forwardCount := by
  unfold State.forwardCount
  split
  · exact law.beside ⟨rfl, rfl, rfl, rfl⟩
  · split
    · exact law.refl s
    · dsimp only
      split
      · exact law.beside ⟨rfl, rfl, rfl, rfl⟩
      · exact law.after (law.liveChanged _) rfl rfl rfl rfl

theorem SectionLaw.wheel (law : SectionLaw R) (s : State) (a b : Bool) : R s (s.wheel a b) := by
  unfold State.wheel
  dsimp only
  split
  · exact law.beside ⟨rfl, rfl, rfl, rfl⟩
  · exact law.after (law.forwardCount _) rfl rfl rfl rfl
  · exact law.beside ⟨rfl, rfl, rfl, rfl⟩

/-! Head links. -/

theorem SectionLaw.headDown (law : SectionLaw R) (s : State) (h : Fin 4) (f : HeadFault) (lock : Bool) :
    R s (s.headDown h f lock) := by
  unfold State.headDown
  dsimp only
  split
  · exact law.after (law.settleSections _) rfl rfl rfl rfl
  · exact law.beside ⟨rfl, rfl, rfl, rfl⟩

theorem SectionLaw.headFinds (law : SectionLaw R) (h : Fin 4) (s : State) (e : LinkEvent) :
    R s (State.headFinds h s e) := by
  cases e with
  | symbolError => exact law.headDown s h _ _
  | frame bs =>
    simp only [State.headFinds, State.sectionFrame]
    split
    · exact law.beside ⟨rfl, rfl, rfl, rfl⟩
    · exact law.after (law.settleSections _) rfl rfl rfl rfl

theorem SectionLaw.headHears (law : SectionLaw R) (s : State) (h : Fin 4) (inFrame ended : Bool) (run : List Symbol) :
    R s (s.headHears h inFrame ended run) := by
  unfold State.headHears
  dsimp only
  split
  · exact law.after (law.foldl _ (law.headFinds h) _ _) rfl rfl rfl rfl
  · exact law.refl s

theorem SectionLaw.headLockLoss (law : SectionLaw R) (s : State) (h : Fin 4) : R s (s.headLockLoss h) := by
  unfold State.headLockLoss
  split
  · exact law.headDown s h _ _
  · exact law.refl s

theorem SectionLaw.setHeads (law : SectionLaw R) (s : State) (e t m r : Nat) : R s (s.setHeads e t m r).st := by
  unfold State.setHeads
  split
  · exact law.refl s
  · split
    · exact law.refl s
    · exact law.after (law.settleSections _) rfl rfl rfl rfl

end

/-! ### Laws of every step -/

/-- A relation between states that the work of the sections keeps, as do the application of a section, the end of a
compilation, each command and a hard reset. -/
structure StepLaw (R : State → State → Prop) : Prop extends SectionLaw R where
  applySection : ∀ s : State, R s s.applySection
  compilationDone : ∀ s : State, R s s.compilationDone
  runCommand : ∀ (s : State) (c : Command) (a : Nat) (p : List Byte), R s (s.runCommand c a p).st
  reset : ∀ s : State, R s State.reset

section
variable {R : State → State → Prop}

theorem StepLaw.takeFrame (law : StepLaw R) (s : State) : R s s.takeFrame := by
  unfold State.takeFrame
  split
  · rename_i f rest _ _
    have hanswer (u : State) : R u (u.answerFrame f).st := by
      unfold State.answerFrame
      split
      · exact law.refl u
      · split
        · exact law.runCommand u _ _ _
        · exact law.refl u
    refine law.trans (law.after (hanswer (s.setLp { s.lp with queue := rest })) rfl rfl rfl rfl) ?_
    exact law.beside ⟨rfl, rfl, rfl, rfl⟩
  · exact law.refl s

/-- What the Line Port does at the end of a step (R172, R180). -/
theorem StepLaw.settle (law : StepLaw R) (s : State) : R s s.settle :=
  law.trans (law.trans (law.takeFrame s) (law.beside (State.transmit_beside _))) (law.takeFrame _)

theorem StepLaw.fire (law : StepLaw R) (s : State) (t : Nat) (d : Due) : R s (s.fire t d) := by
  cases d with
  | sample => exact law.beside ⟨rfl, rfl, rfl, rfl⟩
  | spacing => exact law.beside ⟨rfl, rfl, rfl, rfl⟩
  | timeout seq => exact law.after (law.expireSlot _ seq) rfl rfl rfl rfl
  | compilation => exact law.after (law.compilationDone _) rfl rfl rfl rfl

theorem StepLaw.runTimers (law : StepLaw R) : ∀ (n : Nat) (s : State) (limit : Nat), R s (State.runTimers n s limit)
  | 0, s, _ => law.refl s
  | n + 1, s, limit => by
    unfold State.runTimers
    split
    · exact law.refl s
    · exact law.trans (law.trans (law.fire s _ _) (law.settle _)) (law.runTimers n _ limit)

theorem StepLaw.driven (law : StepLaw R) (s : State) (t : Nat) (d : Due) : R s (s.driven t d) :=
  law.trans (law.runTimers _ s t) (law.fire _ t d)

theorem StepLaw.spacingRow (law : StepLaw R) (s : State) : R s s.spacingRow := by
  unfold State.spacingRow
  split
  · exact law.driven s _ _
  · exact law.refl s

theorem StepLaw.timeoutRow (law : StepLaw R) (s : State) (seq : Seq) : R s (s.timeoutRow seq) := by
  unfold State.timeoutRow
  split
  · exact law.driven s _ _
  · exact law.refl s

theorem StepLaw.tick (law : StepLaw R) (s : State) : R s s.tick := by
  unfold State.tick
  split
  · exact law.refl s
  · exact law.trans (law.runTimers _ s _) (law.beside ⟨rfl, rfl, rfl, rfl⟩)

theorem StepLaw.hardReset (law : StepLaw R) (s : State) (n : Nat) : R s (s.hardReset n) := by
  unfold State.hardReset
  split
  · exact law.refl s
  · exact law.trans (law.reset s) (law.beside ⟨rfl, rfl, rfl, rfl⟩)

/-- The answer `o` to a row taken in `s` is a next state to which `R` leads. -/
def NextIn (R : State → State → Prop) (s : State) (o : Host.Outcome State Fault Refusal) : Prop :=
  ∃ t, o = .next t ∧ R s t

theorem StepLaw.event (law : StepLaw R) {f : State → State} {s : State} (h : R s (f s)) :
    NextIn R s (event f s) := by
  refine ⟨_, rfl, ?_⟩
  split
  · exact law.refl s
  · exact law.trans h (law.settle _)

theorem StepLaw.exec (law : StepLaw R) (i : Instr) (s : State) : NextIn R s (exec i s) := by
  cases i
  case wheelCount a b => exact law.event (f := (·.wheel a b)) (law.wheel s a b)
  case sampleTick => exact law.event (f := State.sampleTick) (law.driven s _ _)
  case spacingTimerExpiry => exact law.event (f := State.spacingRow) (law.spacingRow s)
  case assemblyTimeoutExpiry seq => exact law.event (f := (·.timeoutRow seq)) (law.timeoutRow s seq)
  case sectionFrameReceived h run => exact law.event (f := (·.sectionFrameEnds h run)) (law.headHears s h _ _ run)
  case headLockLoss h => exact law.event (f := (·.headLockLoss h)) (law.headLockLoss s h)
  case headSymbolError h inFrame run sym =>
    exact law.event (f := (·.headSymbolError h inFrame run sym)) (law.headHears s h _ _ _)
  case sectionEvaluation => exact law.event (f := State.evaluateNext) (law.evaluateNext s)
  case sectionApplication => exact law.event (f := State.applySection) (law.applySection s)
  case compilationComplete => exact law.event (f := State.compilationDone) (law.compilationDone s)
  case lineFrameReceived run => exact law.event (f := (·.lineFrameEnds run)) (law.beside (s.lineHears_beside _ _ run))
  case lineLockLoss inFrame =>
    exact law.event (f := (·.lineLockLoss inFrame)) (law.beside (s.lineLockLoss_beside inFrame))
  case lineSymbolError inFrame run sym =>
    exact law.event (f := (·.lineSymbolError inFrame run sym)) (law.beside (s.lineHears_beside _ _ _))
  case transmitFrameEnd => exact law.event (f := State.frameEnd) (law.beside ⟨rfl, rfl, rfl, rfl⟩)
  case hardReset n => exact ⟨_, rfl, law.hardReset s n⟩
  case hardResetRelease => exact ⟨_, rfl, law.beside ⟨rfl, rfl, rfl, rfl⟩⟩
  case headLockGain h => exact law.event (f := (·.headLockGain h)) (law.beside (s.headLockGain_beside h))
  case lineLockGain => exact law.event (f := State.lineLockGain) (law.beside ⟨rfl, rfl, rfl, rfl⟩)
  all_goals exact law.event (f := (·.goodCommand _ _ _)) (law.beside (s.goodCommand_beside _ _ _))

/-- A law of the rows is a law of every step. -/
theorem StepLaw.step (law : StepLaw R) {s t : State} (h : step s = .next t) : R s t := by
  unfold Machine.step at h
  split at h
  · rename_i c rest _
    obtain ⟨u, hu, hkept⟩ := law.exec c (s.setPending rest)
    rw [hu] at h
    cases h
    exact law.after hkept rfl rfl rfl rfl
  · cases h
    exact law.tick s

end

end Sys2Proof.Machine
end

section
/-! The items along the profile (R105) and the mark queue (R96, R99): what the walk from item to item leaves, what the work
at one coordinate does to the Press Tracker, and that every step keeps the queue ordered above the settled coordinate. -/

namespace Sys2Proof.Machine

/-! ### The walk from item to item -/

theorem least_eq_none {l : List Nat} : least l = none ↔ l = [] := by
  cases l with
  | nil => simp [least]
  | cons a as =>
    simp only [least, reduceCtorEq, iff_false]
    split <;> simp

theorem least_mem : ∀ {l : List Nat} {c : Nat}, least l = some c → c ∈ l
  | a :: as, c, h => by
    unfold least at h
    split at h
    · cases h
      exact List.mem_cons_self
    · rename_i b hb
      obtain rfl := Option.some.inj h
      rcases Nat.le_total a b with hab | hab
      · rw [Nat.min_eq_left hab]
        exact List.mem_cons_self
      · rw [Nat.min_eq_right hab]
        exact List.mem_cons_of_mem _ (least_mem hb)

theorem least_le : ∀ {l : List Nat} {c : Nat}, least l = some c → ∀ d ∈ l, c ≤ d
  | a :: as, c, h => by
    unfold least at h
    split at h
    · rename_i hnone
      obtain rfl := Option.some.inj h
      simp [least_eq_none.1 hnone]
    · rename_i b hb
      obtain rfl := Option.some.inj h
      exact List.forall_mem_cons.2 ⟨Nat.min_le_left _ _, fun d hd => (Nat.min_le_right _ _).trans (least_le hb d hd)⟩

/-- No item stands above `y` and at or below `limit`. -/
theorem State.nextItem_eq_none {s : State} {y limit : Nat} :
    s.nextItem y limit = none ↔ ∀ c ∈ s.itemCoords, y < c → limit < c := by
  simp [State.nextItem, least_eq_none, List.filter_eq_nil_iff]

theorem State.nextItem_mem {s : State} {y limit c : Nat} (h : s.nextItem y limit = some c) :
    c ∈ s.itemCoords ∧ y < c ∧ c ≤ limit := by
  obtain ⟨hmem, hrange⟩ := List.mem_filter.1 (least_mem h)
  exact ⟨hmem, of_decide_eq_true hrange⟩

/-- No item stands between `y` and the next one. -/
theorem State.nextItem_le {s : State} {y limit c : Nat} (h : s.nextItem y limit = some c) :
    ∀ d ∈ s.itemCoords, y < d → c ≤ d := by
  intro d hd hyd
  obtain ⟨-, -, hc⟩ := State.nextItem_mem h
  rcases Nat.le_total d limit with hdl | hld
  · exact least_le h d (List.mem_filter.2 ⟨hd, decide_eq_true ⟨hyd, hdl⟩⟩)
  · exact hc.trans hld

/-- What holds when the walk starts at `y`, and at each item it applies, holds where it ends, and no item is left up to
`limit`. -/
theorem State.walk_ends {P : State → Nat → Prop} {limit : Nat}
    (hstep : ∀ s y c, P s y → s.nextItem y limit = some c → P (s.applyAt c) c) :
    ∀ (n : Nat) (s : State) (y : Nat), P s y → y ≤ limit → limit - y ≤ n →
      ∃ z, y ≤ z ∧ z ≤ limit ∧ P (State.walk n s y limit) z ∧ (State.walk n s y limit).nextItem z limit = none
  | 0, s, y, hP, hle, hfuel => by
    refine ⟨y, le_rfl, hle, hP, State.nextItem_eq_none.2 fun c _ hc => ?_⟩
    omega
  | n + 1, s, y, hP, hle, hfuel => by
    unfold State.walk
    cases hnext : s.nextItem y limit with
    | none => exact ⟨y, le_rfl, hle, hP, hnext⟩
    | some c =>
      obtain ⟨-, hyc, hc⟩ := State.nextItem_mem hnext
      obtain ⟨z, hcz, hz⟩ := State.walk_ends hstep n (s.applyAt c) c (hstep s y c hP hnext) hc (by omega)
      exact ⟨z, hyc.le.trans hcz, hz⟩

/-! ### The Press Tracker -/

@[simp] theorem State.raise_pk (s : State) (f : AlertFlag) : (s.raise f).pk = s.pk := rfl

@[simp] theorem State.mapPiece_pk (s : State) (f : Piece → Piece) : (s.mapPiece f).pk = s.pk := rfl

@[simp] theorem State.dropOldest_pk (s : State) : s.dropOldest.pk = s.pk := by
  unfold State.dropOldest
  split <;> rfl

@[simp] theorem State.appendReport_pk (s : State) (r : Report) : (s.appendReport r).pk = s.pk := by
  unfold State.appendReport
  dsimp only
  split
  · rfl
  · exact s.dropOldest_pk

@[simp] theorem State.noteClose_pk (s : State) : s.noteClose.pk = s.pk := by
  unfold State.noteClose
  split <;> rfl

@[simp] theorem State.openPiece_pk (s : State) (p : Nat) (continued : Bool) : (s.openPiece p continued).pk = s.pk := by
  unfold State.openPiece
  dsimp only
  split
  · exact s.dropOldest_pk
  · rfl

@[simp] theorem State.closePiece_pk (s : State) (r : CloseReason) (e : Nat) : (s.closePiece r e).pk = s.pk := by
  unfold State.closePiece
  split
  · rfl
  · dsimp only
    split
    · exact State.appendReport_pk _ _
    · rw [State.noteClose_pk, State.appendReport_pk]
      rfl

@[simp] theorem State.applyBoundary_pk (s : State) (e : Nat) : (s.applyBoundary e).pk = s.pk := by
  unfold State.applyBoundary
  split
  · rfl
  · split
    · dsimp only
      split
      · exact s.noteClose_pk
      · rw [State.setPt_pk]
        split <;> exact s.noteClose_pk
    · rw [State.openPiece_pk, State.closePiece_pk]

@[simp] theorem State.boundaryAt_pk (s : State) (y : Nat) : (s.boundaryAt y).pk = s.pk := by
  unfold State.boundaryAt
  split
  · rfl
  · split
    · exact s.applyBoundary_pk y
    · rfl

@[simp] theorem State.applyCut_pk (s : State) (x : Nat) (est : Bool) : (s.applyCut x est).pk = s.pk := by
  unfold State.applyCut
  cases est <;> simp

@[simp] theorem State.countBurst_pk (s : State) (r : SecResult) : (s.countBurst r).pk = s.pk := by
  unfold State.countBurst
  dsimp only
  (repeat' split) <;> rfl

theorem State.offerMatch_pk (s : State) (a b : Nat) : (s.offerMatch a b).pk = s.pk := by
  unfold State.offerMatch
  (repeat' split) <;> rfl

/-- A STOP or WELD mark leaves the queue (R107). -/
theorem State.applyZone_queue (s : State) (y : Nat) (m : Mark) : (s.applyZone y m).pk.queue = s.pk.queue := by
  unfold State.applyZone
  dsimp only
  rw [State.mapPiece_pk, State.setPk_pk]
  split <;> rfl

/-- A fold of operations that each leave a reading leaves it. -/
theorem foldl_reading {σ α β : Type} (g : σ → β) (f : σ → α → σ) (hf : ∀ s a, g (f s a) = g s)
    (l : List α) (s : σ) : g (l.foldl f s) = g s :=
  List.foldlRecOn (motive := fun t => g t = g s) l f rfl fun t ht a _ => (hf t a).trans ht

/-- The marks at or below `y` leave the queue (R99). -/
theorem State.applyAt_queue (s : State) (y : Nat) :
    (s.applyAt y).pk.queue = s.pk.queue.dropWhile fun m => decide (m.start ≤ y) := by
  unfold State.applyAt
  dsimp only
  rw [foldl_reading (fun t : State => t.pk.queue) _ fun t m => t.applyZone_queue y m]
  rw [State.boundaryAt_pk, foldl_reading State.pk _ fun t (m : Mark) => t.applyCut_pk y m.est]
  rfl

/-! ### The queue above a coordinate -/

/-- The mark queue: at most 16 marks in order, each above `c` (R96). -/
structure State.MarksAbove (s : State) (c : Nat) : Prop where
  length : s.pk.queue.length ≤ 16
  ordered : s.pk.queue.Pairwise fun a b => a.start ≤ b.start
  above : ∀ m ∈ s.pk.queue, c < m.start

theorem State.marksSound_iff (s : State) : s.MarksSound ↔ s.MarksAbove s.pt.settled :=
  ⟨fun ⟨hlen, hord, habove⟩ => ⟨hlen, hord, habove⟩, fun h => ⟨h.length, h.ordered, h.above⟩⟩

theorem State.MarksAbove.of_queue {s t : State} {c : Nat} (hs : s.MarksAbove c) (h : t.pk.queue = s.pk.queue) :
    t.MarksAbove c := ⟨h ▸ hs.length, h ▸ hs.ordered, h ▸ hs.above⟩

/-- Behind the marks at or below `y` an ordered queue has only marks above it. -/
theorem dropWhile_above {l : List Mark} (h : l.Pairwise fun a b => a.start ≤ b.start) (y : Nat) :
    ∀ m ∈ l.dropWhile fun m => decide (m.start ≤ y), y < m.start := by
  induction l with
  | nil => nofun
  | cons a l ih =>
    obtain ⟨ha, hl⟩ := List.pairwise_cons.1 h
    by_cases hay : a.start ≤ y
    · simpa [List.dropWhile_cons, hay] using ih hl
    · simp only [List.dropWhile_cons, hay, decide_false, Bool.false_eq_true, if_false]
      exact List.forall_mem_cons.2 ⟨by omega, fun m hm => by have := ha m hm; omega⟩

section
variable {s : State} {c : Nat} (hs : s.MarksAbove c)
include hs

/-- The work at a coordinate keeps the queue, and leaves no mark at or below it. -/
theorem State.applyAt_marksAbove (y : Nat) : (s.applyAt y).MarksAbove (max c y) := by
  have hsub : (s.applyAt y).pk.queue.Sublist s.pk.queue := s.applyAt_queue y ▸ List.dropWhile_sublist _
  refine ⟨hsub.length_le.trans hs.length, hs.ordered.sublist hsub, fun m hm => ?_⟩
  have hy : y < m.start := dropWhile_above hs.ordered y m (s.applyAt_queue y ▸ hm)
  have hc := hs.above m (hsub.subset hm)
  omega

/-- The walk up to `limit` applies every mark up to there (R99, R105). -/
theorem State.walk_marksAbove {limit : Nat} (h : c ≤ limit) :
    (State.walk (limit - c) s c limit).MarksAbove limit := by
  obtain ⟨z, -, -, hz, hnone⟩ := State.walk_ends (P := State.MarksAbove) (limit := limit) (fun t y d ht hnext => by
      obtain ⟨-, hyd, -⟩ := State.nextItem_mem hnext
      have happly := State.applyAt_marksAbove ht d
      rwa [max_eq_right hyd.le] at happly) _ s c hs h le_rfl
  refine ⟨hz.length, hz.ordered, fun m hm => State.nextItem_eq_none.1 hnone _ ?_ (hz.above m hm)⟩
  simp only [State.itemCoords, List.mem_append]
  exact .inl (.inr (List.mem_map_of_mem hm))

/-- A walk below the marks leaves them above their bound. -/
theorem State.walk_marksAbove_bound (y limit n : Nat) : (State.walk n s y limit).MarksAbove c := by
  induction n generalizing s y with
  | zero => exact hs
  | succ n ih =>
    unfold State.walk
    split
    · exact hs
    · have happly := State.applyAt_marksAbove hs ‹Nat›
      exact ih ⟨happly.length, happly.ordered, fun m hm => by have := happly.above m hm; omega⟩ _

end

/-! ### What keeps the law -/

/-- What holds in `t` of the law of the mark queue when it holds in `s`. -/
structure MarksKept (s t : State) : Prop where
  sound : s.MarksSound → t.MarksSound

theorem MarksKept.trans {s t u : State} (h : MarksKept s t) (k : MarksKept t u) : MarksKept s u := ⟨k.sound ∘ h.sound⟩

theorem MarksKept.of_eq {s t : State} (hqueue : t.pk.queue = s.pk.queue) (hsettled : t.pt.settled = s.pt.settled) :
    MarksKept s t := ⟨by simp only [State.MarksSound, hqueue, hsettled, imp_self]⟩

theorem MarksKept.refl (s : State) : MarksKept s s := .of_eq rfl rfl

/-- What comes behind a change that leaves the queue and the settled coordinate. -/
theorem MarksKept.after {s u t : State} (k : MarksKept u t) (hqueue : u.pk.queue = s.pk.queue)
    (hsettled : u.pt.settled = s.pt.settled) : MarksKept s t := (MarksKept.of_eq hqueue hsettled).trans k

theorem MarksKept.of_empty {s t : State} (h : t.pk.queue = []) : MarksKept s t := ⟨fun _ => by simp [State.MarksSound, h]⟩

theorem Beside.marksKept {s t : State} (h : Beside s t) : MarksKept s t := .of_eq (by rw [h.pk]) (by rw [h.pt])

/-- Work along the profile that leaves the settled coordinate and the Press Tracker. -/
theorem ProfileKept.marksKept {s t : State} (k : ProfileKept s t) (h : t.pk = s.pk) : MarksKept s t :=
  .of_eq (by rw [h]) k.settled

theorem State.advanceTo_marksKept (s : State) (c : Nat) : MarksKept s (s.advanceTo c) := by
  unfold State.advanceTo
  split
  · rename_i h
    refine MarksKept.trans ⟨fun hs => ?_⟩ ((State.offerMatch_profileKept _ _ _).marksKept (State.offerMatch_pk _ _ _))
    have hwalk := State.walk_marksAbove ((State.marksSound_iff s).1 hs) h.2.le
    exact (State.marksSound_iff _).2 (hwalk.of_queue rfl)
  · exact .refl s

theorem State.advance_marksKept (s : State) : MarksKept s s.advance := s.advanceTo_marksKept _

theorem State.applyResult_marksKept (s : State) (r : SecResult) : MarksKept s (s.applyResult r) := by
  have hmap (u : State) (f : Piece → Piece) : MarksKept u (u.mapPiece f) := .of_eq rfl rfl
  have hdrop (u : State) : MarksKept u (u.setPt { u.pt with awaited := u.pt.awaited.drop 1 }) := .of_eq rfl rfl
  unfold State.applyResult
  refine (s.advanceTo_marksKept r.coord).trans ?_
  refine MarksKept.trans ?_ (State.advance_marksKept _)
  refine MarksKept.trans ?_ (hdrop _)
  refine MarksKept.trans ?_ (State.offerTrace_beside _ r).marksKept
  refine MarksKept.trans ?_ ((State.countBurst_profileKept _ _).marksKept (State.countBurst_pk _ _))
  refine (hmap _ fun p => { p with cur := countSection r p.cur }).trans ?_
  split
  · exact hmap _ _
  · exact .refl _

theorem State.applySection_marksKept (s : State) : MarksKept s s.applySection := by
  unfold State.applySection
  split
  · exact .refl s
  · exact (State.applyResult_marksKept _ _).after rfl rfl

theorem State.compilationDone_marksKept (s : State) : MarksKept s s.compilationDone := by
  unfold State.compilationDone
  split
  · refine MarksKept.trans ?_ (State.raise_beside _ _).marksKept
    refine MarksKept.trans ?_ (State.advance_marksKept _)
    refine MarksKept.trans ?_ ((State.openPiece_profileKept _ _ _).marksKept (State.openPiece_pk _ _ _))
    exact .of_eq rfl rfl
  · exact .refl s

/-! ### Delivery of marks (R95 to R98) -/

/-- A mark is inserted behind the marks that start at or below its own start (R96). -/
theorem insertMark_eq (m : Mark) (l : List Mark) : insertMark m l =
    (l.takeWhile fun q => decide (q.start ≤ m.start)) ++ m :: l.dropWhile fun q => decide (q.start ≤ m.start) := by
  induction l with
  | nil => rfl
  | cons q l ih => by_cases h : q.start ≤ m.start <;> simp [insertMark, h, ih]

theorem mem_insertMark {m q : Mark} {l : List Mark} : q ∈ insertMark m l ↔ q = m ∨ q ∈ l := by
  induction l with
  | nil => simp [insertMark]
  | cons a l ih =>
    unfold insertMark
    split
    · simp only [List.mem_cons, ih]
      tauto
    · simp

theorem insertMark_length (m : Mark) (l : List Mark) : (insertMark m l).length = l.length + 1 := by
  induction l with
  | nil => rfl
  | cons a l ih =>
    unfold insertMark
    split <;> simp [ih]

theorem insertMark_ordered (m : Mark) {l : List Mark} (h : l.Pairwise fun a b => a.start ≤ b.start) :
    (insertMark m l).Pairwise fun a b => a.start ≤ b.start := by
  induction l with
  | nil => simp [insertMark]
  | cons a l ih =>
    obtain ⟨ha, hl⟩ := List.pairwise_cons.1 h
    unfold insertMark
    split
    · rename_i ham
      refine List.pairwise_cons.2 ⟨fun q hq => ?_, ih hl⟩
      rcases mem_insertMark.1 hq with rfl | hq
      · exact ham
      · exact ha q hq
    · rename_i ham
      exact List.pairwise_cons.2 ⟨List.forall_mem_cons.2 ⟨by omega, fun q hq => by have := ha q hq; omega⟩, h⟩

theorem State.lateCut_marksKept (s : State) (x : Nat) (est : Bool) : MarksKept s (s.lateCut x est) := by
  refine ⟨fun hs => ?_⟩
  have hsettled := (s.lateCut_profileKept x est).settled
  rw [State.marksSound_iff] at hs ⊢
  rw [hsettled]
  unfold State.lateCut
  exact State.walk_marksAbove_bound (hs.of_queue (by rw [State.applyCut_pk]; rfl)) _ _ _

theorem State.lateZone_marksKept (s : State) (m : Mark) : MarksKept s (s.lateZone m) :=
  .of_eq (State.applyZone_queue _ _ _) rfl

theorem State.deliverMark_marksKept (s : State) (m : Mark) : MarksKept s (s.deliverMark m).1 := by
  unfold State.deliverMark State.handLate
  split
  · split
    · split
      · split
        · exact s.lateCut_marksKept _ _
        · exact .refl s
      · exact .refl s
    · exact s.lateZone_marksKept m
  · rename_i hlate
    split
    · exact .refl s
    · split
      · exact .of_eq rfl rfl
      · rename_i hroom
        refine ⟨fun ⟨_, hord, habove⟩ => ⟨?_, insertMark_ordered m hord, fun q hq => ?_⟩⟩
        · simp only [State.setPk_pk, insertMark_length]
          omega
        · rcases mem_insertMark.1 hq with rfl | hq
          · exact Nat.lt_of_not_le hlate
          · exact habove q hq

theorem State.answerMark_marksKept (s : State) (look : Nat × Bool) (formed : Nat) (m : Mark) :
    MarksKept s (s.answerMark look formed m).st := s.deliverMark_marksKept m

theorem State.ramStop_marksKept (s : State) (a n : Nat) : MarksKept s (s.ramStop a n).st := by
  unfold State.ramStop
  dsimp only
  split
  case h_1 => exact .refl s
  case h_2 => split <;> exact .of_eq rfl rfl
  all_goals
    split
    · exact .refl s
    · exact (State.answerMark_marksKept _ _ _ _).after rfl rfl

theorem State.ramStart_marksKept (s : State) (a n b : Nat) : MarksKept s (s.ramStart a n b).st := by
  unfold State.ramStart
  dsimp only
  split
  case h_1 => exact .refl s
  case h_2 => split <;> exact .of_eq rfl rfl
  all_goals
    split
    · exact .refl s
    · split
      · split
        · exact .of_eq rfl rfl
        · exact (State.answerMark_marksKept _ _ _ _).after rfl rfl
      · exact .of_eq rfl rfl

theorem State.cutNotice_marksKept (s : State) (a n : Nat) : MarksKept s (s.cutNotice a n).st := by
  unfold State.cutNotice
  dsimp only
  split
  case h_1 => exact .refl s
  case h_2 => exact .refl s
  all_goals exact s.answerMark_marksKept _ _ _

/-! ### Every step -/

/-- A commit empties the queue (R100). -/
theorem State.commit_queue (s : State) (c : Commit) : (s.commit c).pk.queue = [] := by
  simp only [State.commit, State.commitContext, State.clearBusy, State.writeLeftLink, State.putSlot]
  split <;> split <;> rfl

theorem MarksKept.of_switch {s t : State} (h : t = s.raise .switchFailed ∨ ∃ c, t = s.commit c) : MarksKept s t := by
  rcases h with rfl | ⟨c, rfl⟩
  · exact .of_eq rfl rfl
  · exact .of_empty (s.commit_queue c)

theorem MarksKept.sectionLaw : SectionLaw MarksKept where
  trans := MarksKept.trans
  beside := Beside.marksKept
  passing _ _ _ _ := .of_eq rfl rfl
  advance := State.advance_marksKept

theorem State.runCommand_marksKept (s : State) (c : Command) (a : Nat) (p : List Byte) :
    MarksKept s (s.runCommand c a p).st := by
  by_cases hc : reachesContext c = true
  · obtain ⟨x, hx⟩ := s.runCommand_context hc a p
    rw [hx]
    exact .of_eq rfl rfl
  · cases c
    case setGeometry => exact (s.setGeometry_beside p).marksKept
    case setHeads => exact MarksKept.sectionLaw.setHeads s _ _ _ _
    case setHeadCal => exact (s.setHeadCal_beside _ _ _ _).marksKept
    case dieChange => exact .of_switch (s.dieChange_st _)
    case revert => exact .of_switch s.revertSwitch_st
    case noteRamStop => exact s.ramStop_marksKept _ _
    case noteRamStart => exact s.ramStart_marksKept _ _ _
    case noteCut => exact s.cutNotice_marksKept _ _
    case fetchFirst =>
      simp only [State.runCommand, State.fetchFirst]
      split <;> exact .of_eq rfl rfl
    case fetchNext =>
      simp only [State.runCommand, State.fetchNext]
      (repeat' split) <;> exact .of_eq rfl rfl
    case setFetchPointer =>
      simp only [State.runCommand, State.setFetchPointer]
      (repeat' split) <;> exact .of_eq rfl rfl
    case release =>
      simp only [State.runCommand, State.release]
      (repeat' split) <;> exact .of_eq rfl rfl
    case ackAlerts =>
      simp only [State.runCommand, State.ackAlerts, State.reloadBurst, State.taken]
      split <;> exact .of_eq rfl rfl
    case setMatch => exact (s.setMatch_beside _ _).marksKept
    case resetEngine => exact .of_empty rfl
    case identify => exact .refl s
    case sense => exact .refl s
    case getStatus => exact .refl s
    case setTrace => exact .of_eq rfl rfl
    case setNotices => exact .of_eq rfl rfl
    all_goals exact absurd rfl hc

theorem MarksKept.stepLaw : StepLaw MarksKept where
  toSectionLaw := MarksKept.sectionLaw
  applySection := State.applySection_marksKept
  compilationDone := State.compilationDone_marksKept
  runCommand := State.runCommand_marksKept
  reset _ := .of_empty rfl

/-- Settles O11: marks leave the queue at or below the settled coordinate alone, and join it in order above it; a commit and
a reset empty it. -/
theorem markLawKept : Obligations.MarkLawKept := fun _ _ hs hstep => (MarksKept.stepLaw.step hstep).sound hs

end Sys2Proof.Machine
end

section
/-! Bins and pieces as the rules give them (R108, R110 to R117, R119, R132, R157, R158): each operation of the Piece Tracker
read as its written-out form. -/

namespace Sys2Proof.Machine

/-! ### Bins (R108, R111 to R114) -/

theorem verdictOf_eq (par : Params) (b : Bin) : verdictOf par b = Rule.verdict par b := by
  simp only [verdictOf, Rule.verdict, List.any_eq_true, beq_iff_eq, gt_iff_lt]

theorem State.closeBin_eq (s : State) (b : Bin) (e : Nat) : s.closeBin { b with stop := e } = Rule.closed s b e := by
  simp only [State.closeBin, Rule.closed, verdictOf_eq]
  rfl

theorem backCropBin_eq (par : Params) (x : Nat) (b : Bin) : backCropBin par x b = Rule.cropped par x b := by
  simp only [backCropBin, Rule.cropped, verdictOf_eq]
  rfl

theorem ite_isSome {α β : Type} (o : Option α) (a b : β) :
    (if o.isSome = true then a else b) = if o = none then b else a := by cases o <;> rfl

theorem State.openTags_eq (s : State) : s.openTags = Rule.openTags s := by
  simp only [State.openTags, Rule.openTags, ite_isSome]
  rfl

/-- The indices of the enabled gauges from an index on. -/
theorem enabledFrom_eq (k : Nat) (l : List GaugeRec) :
    enabledFrom k l = ((l.zipIdx k).filter fun x => x.1.enabledByte != 0).map Prod.snd := by
  induction l generalizing k with
  | nil => rfl
  | cons g l ih =>
    by_cases hg : g.enabledByte = 0#8 <;> simp [enabledFrom, GaugeRec.enabled, List.zipIdx_cons, hg, ih]

theorem State.newBin_eq (s : State) (p k : Nat) : s.newBin p k = Rule.opened s k p (Rule.openTags s) := by
  have hgauges : (s.enabledGauges.map fun i => ({ idx := i, worst := .ungraded, dev := none } : BinGauge)) =
      (Rule.opened s k p (Rule.openTags s)).gauges := by
    unfold State.enabledGauges
    cases hc : s.ge.compiled with
    | none => simp [Rule.opened, hc]
    | some c => simp [Rule.opened, hc, enabledFrom_eq, Function.comp_def]
  simp only [State.newBin, hgauges, State.openTags_eq]
  rfl

/-- A bin opens by the parameters and the compiled copy alone, which the work along the profile leaves. -/
theorem PieceFrame.opened {s t : State} (h : PieceFrame s t) : Rule.opened t = Rule.opened s := by
  funext index p tags
  simp only [Rule.opened, h.params, h.ge]

theorem PieceFrame.boundedFrom {s t : State} (h : PieceFrame s t) (p : Nat) : t.boundedFrom p = s.boundedFrom p := by
  simp only [State.boundedFrom, h.params]

/-! ### The end of a halt, and the Report Queue (R132, R157, R158) -/

theorem State.noteClose_eq (s : State) : s.noteClose = Rule.haltEnded s := rfl

@[simp] theorem Rule.haltEnded_pt (s : State) : (Rule.haltEnded s).pt = s.pt := by
  unfold Rule.haltEnded
  split <;> rfl

theorem Rule.haltEnded_rq (s : State) : (Rule.haltEnded s).rq = s.rq := by
  unfold Rule.haltEnded
  split <;> rfl

theorem Rule.haltEnded_engine (s : State) :
    (Rule.haltEnded s).cc.engine = if s.cc.engine = .halting then .ready else s.cc.engine := by
  unfold Rule.haltEnded
  split <;> rfl

theorem State.appendReport_eq (s : State) (r : Report) : s.appendReport r = Rule.appended s r := rfl

/-- A drop returns records to the pool (R158). -/
theorem Rule.dropped_pt (s : State) : (Rule.dropped s).pt = { s.pt with free := (Rule.dropped s).pt.free } := by
  unfold Rule.dropped
  split <;> rfl

theorem Rule.appended_pt (s : State) (r : Report) :
    (Rule.appended s r).pt = { s.pt with free := (Rule.appended s r).pt.free } := by
  unfold Rule.appended
  dsimp only
  split
  · rfl
  · exact Rule.dropped_pt s

theorem Rule.dropped_free_le (s : State) : s.pt.free ≤ (Rule.dropped s).pt.free := by
  unfold Rule.dropped
  split
  · rfl
  · exact Nat.le_add_right _ _

theorem Rule.appended_free_le (s : State) (r : Report) : s.pt.free ≤ (Rule.appended s r).pt.free := by
  unfold Rule.appended
  dsimp only
  split
  · rfl
  · exact Rule.dropped_free_le s

theorem Rule.appended_reports (s : State) (r : Report) : (Rule.appended s r).rq.reports =
    (if s.rq.reports.length < 6 then s.rq.reports else s.rq.reports.drop 1) ++ [r] := by
  have hdropped : (Rule.dropped s).rq.reports = s.rq.reports.drop 1 := by
    unfold Rule.dropped
    split
    · rename_i hnone
      rw [hnone]
      rfl
    · rename_i hsome
      rw [hsome]
      rfl
  by_cases h : s.rq.reports.length < 6
  · simp [Rule.appended, h, State.raise]
  · simp [Rule.appended, h, State.raise, hdropped]

/-! ### A piece closes (R117) -/

theorem State.closingBins_eq (s : State) (p : Piece) (e : Nat) (reason : CloseReason) :
    (Rule.report s p reason e).bins =
      if reason = .cut then (s.closingBins p e).map (backCropBin s.params e) else s.closingBins p e := by
  have hcrop : backCropBin s.params e = Rule.cropped s.params e := funext (backCropBin_eq _ _)
  simp only [State.closingBins, Rule.report, State.closeBin_eq, hcrop]

theorem Rule.report_bins_length (s : State) (p : Piece) (e : Nat) (reason : CloseReason) :
    (Rule.report s p reason e).bins.length = (s.closingBins p e).length := by
  rw [State.closingBins_eq]
  split <;> simp

/-- The report of the open piece joins the queue, and what it leaves of its records the pool (R117, R123, R157). -/
theorem State.closePiece_eq {s : State} {p : Piece} (h : s.pt.piece = some p) (reason : CloseReason) (e : Nat) :
    s.closePiece reason e = if reason = .dieEnd then Rule.pieceClosed s p reason e
      else Rule.haltEnded (Rule.pieceClosed s p reason e) := by
  have hreport : Rule.report s p reason e =
      { number := p.number, slot := (s.cc.active.map Fin.val).getD 0, die := s.cc.activeDie.getD 0, reason := reason,
        flags := p.flags, start := p.start, stop := e,
        bins := if reason = .cut then (s.closingBins p e).map (backCropBin s.params e) else s.closingBins p e } := by
    rw [← State.closingBins_eq]
    rfl
  unfold State.closePiece Rule.pieceClosed
  simp only [h, hreport, Piece.binCount]
  rw [← Rule.report_bins_length s p e reason, hreport]
  rfl

/-- The part after a piece closes other than by a commit, with the end of a halt (R117, R132). -/
def State.pieceEnded (s : State) (p : Piece) (reason : CloseReason) (e : Nat) : State :=
  Rule.haltEnded (Rule.pieceClosed s p reason e)

section
variable (s : State) (p : Piece) (reason : CloseReason) (e : Nat)

theorem State.pieceEnded_frame : PieceFrame s (s.pieceEnded p reason e) := by
  refine PieceFrame.trans ?_ (State.noteClose_frame (Rule.pieceClosed s p reason e))
  unfold Rule.pieceClosed
  dsimp only
  rw [← State.appendReport_eq]
  refine PieceFrame.trans ?_ (State.appendReport_frame _ _)
  exact s.setPt_frame _ rfl rfl rfl

theorem State.pieceEnded_pk : (s.pieceEnded p reason e).pk = s.pk :=
  (State.noteClose_pk _).trans (State.appendReport_pk _ _)

/-- No open piece is left, and records return to the pool. -/
theorem State.pieceEnded_pt : (s.pieceEnded p reason e).pt =
    { s.pt with piece := none, free := (s.pieceEnded p reason e).pt.free } := by
  unfold State.pieceEnded
  rw [Rule.haltEnded_pt]
  exact Rule.appended_pt _ _

theorem State.pieceEnded_free_le : s.pt.free ≤ (s.pieceEnded p reason e).pt.free := by
  unfold State.pieceEnded Rule.pieceClosed
  rw [Rule.haltEnded_pt]
  dsimp only
  refine le_trans ?_ (Rule.appended_free_le _ _)
  exact Nat.le_add_right _ _

/-- The report is the newest, and a full queue has dropped its oldest (R157, R158). -/
theorem State.pieceEnded_reports : (s.pieceEnded p reason e).rq.reports =
    (if s.rq.reports.length < 6 then s.rq.reports else s.rq.reports.drop 1) ++ [Rule.report s p reason e] := by
  unfold State.pieceEnded
  rw [Rule.haltEnded_rq]
  exact Rule.appended_reports _ _

theorem State.pieceEnded_engine : (s.pieceEnded p reason e).cc.engine =
    if s.cc.engine = .halting then .ready else s.cc.engine := by
  have hcc : (Rule.pieceClosed s p reason e).cc = s.cc := State.appendReport_cc _ _
  unfold State.pieceEnded
  rw [Rule.haltEnded_engine, hcc]

theorem State.pieceEnded_flag : FlagSet.has (s.pieceEnded p reason e).au.flags .pieceReady = true :=
  (State.noteClose_profileKept _).flags _ (State.raise_has _ _)

end

/-! ### A piece opens (R110, R112, R116) -/

/-- The state with a free record for the new piece: an empty pool makes the oldest report drop (R116, R158). -/
def State.withRecord (s : State) : State := if s.pt.free = 0 then Rule.dropped s else s

theorem State.withRecord_frame (s : State) : PieceFrame s s.withRecord := by
  unfold State.withRecord
  split
  · exact s.dropOldest_frame
  · exact .refl s

theorem State.withRecord_pt (s : State) : s.withRecord.pt = { s.pt with free := s.withRecord.pt.free } := by
  unfold State.withRecord
  split
  · exact Rule.dropped_pt s
  · rfl

theorem State.withRecord_pk (s : State) : s.withRecord.pk = s.pk := by
  unfold State.withRecord
  split
  · exact s.dropOldest_pk
  · rfl

/-- The front-crop zone behind the opening of a piece at `p` (R110). -/
def State.zoneFrom (s : State) (p : Nat) (continued : Bool) : Option Nat :=
  if continued then s.pt.frontCrop else
    if p < min (p + s.params.frontCrop) 4294967295 then some (min (p + s.params.frontCrop) 4294967295) else none

/-- The state in which the new piece takes its record and its number. -/
def State.beforeOpening (s : State) (p : Nat) (continued : Bool) : State :=
  s.withRecord.setPt { s.withRecord.pt with frontCrop := s.zoneFrom p continued }

theorem State.beforeOpening_frame (s : State) (p : Nat) (continued : Bool) :
    PieceFrame s (s.beforeOpening p continued) :=
  s.withRecord_frame.trans (State.setPt_frame _ _ rfl rfl rfl)

/-- A piece opens (R116): the next number, a record, and bin 0 with the tags of the zones then open. -/
theorem State.openPiece_eq (s : State) (p : Nat) (continued : Bool) :
    let w := s.beforeOpening p continued
    s.openPiece p continued = w.setPt { w.pt with
      nextPiece := if s.pt.nextPiece < 65535 then s.pt.nextPiece + 1 else 1, free := w.pt.free - 1, episode := false
      piece := some {
        number := s.pt.nextPiece, start := p, flags := if continued then 1 else 0, closed := []
        cur := Rule.opened s 0 p (Rule.openTags w ||| if continued = true ∨ s.params.frontCrop = 0 then 0 else 4)
        bounded := decide (p + s.params.binLen ≤ 4294967295) } } := by
  intro w
  have hcrop : s.withRecord.pt.frontCrop = s.pt.frontCrop := by rw [s.withRecord_pt]
  have hnumber : w.pt.nextPiece = s.pt.nextPiece := by
    change s.withRecord.pt.nextPiece = _
    rw [s.withRecord_pt]
  have hw : s.withRecord.setPt { s.withRecord.pt with
      frontCrop := if continued then s.withRecord.pt.frontCrop else s.withRecord.frontCropFrom p } = w := by
    rw [hcrop]
    simp only [State.frontCropFrom, s.withRecord_frame.params]
    rfl
  have hframe : PieceFrame s w := s.beforeOpening_frame p continued
  have hdef (u : State) (hu : s.withRecord.setPt { s.withRecord.pt with
      frontCrop := if continued then s.withRecord.pt.frontCrop else s.withRecord.frontCropFrom p } = u) :
      s.openPiece p continued = u.setPt { u.pt with
        nextPiece := nextNumber u.pt.nextPiece, free := u.pt.free - 1, episode := false
        piece := some {
          number := u.pt.nextPiece, start := p, flags := if continued then PieceFlag.continued.bit else 0, closed := []
          cur := { u.newBin p 0 with
            tags := (u.newBin p 0).tags ||| if continued then 0 else if u.params.frontCrop = 0 then 0 else 4 }
          bounded := u.boundedFrom p } } := by
    rw [← hu]
    rfl
  have htag : (if continued = true then 0 else if s.params.frontCrop = 0 then 0 else 4 : ZoneSet) =
      if continued = true ∨ s.params.frontCrop = 0 then 0 else 4 := by cases continued <;> simp
  rw [hdef w hw, hnumber, w.newBin_eq, hframe.opened, hframe.params, hframe.boundedFrom, htag]
  rfl

theorem Rule.openTags_congr {s t : State} (hpk : t.pk = s.pk) (hcrop : t.pt.frontCrop = s.pt.frontCrop) :
    Rule.openTags t = Rule.openTags s := by
  simp only [Rule.openTags, hpk, hcrop]

/-- A CONTINUED piece leaves the front-crop zone (R110, R120). -/
theorem State.openPiece_continued (s : State) (p : Nat) :
    let w := s.withRecord
    s.openPiece p true = w.setPt { w.pt with
      nextPiece := if s.pt.nextPiece < 65535 then s.pt.nextPiece + 1 else 1, free := w.pt.free - 1, episode := false
      piece := some {
        number := s.pt.nextPiece, start := p, flags := 1, closed := [], cur := Rule.opened s 0 p (Rule.openTags s)
        bounded := decide (p + s.params.binLen ≤ 4294967295) } } := by
  intro w
  have hcrop : w.pt.frontCrop = s.pt.frontCrop := by rw [s.withRecord_pt]
  have hpk : w.pk = s.pk := s.withRecord_pk
  have hbefore : s.beforeOpening p true = w := by
    have hzone : s.zoneFrom p true = w.pt.frontCrop := by rw [hcrop]; rfl
    rw [State.beforeOpening, hzone]
    rfl
  have htags : Rule.openTags s ||| 0 = Rule.openTags s := BitVec.or_zero
  simp only [State.openPiece_eq, hbefore, Rule.openTags_congr hpk hcrop, true_or, if_true, htags]

/-! ### A bin boundary (R114, R115, R120) -/

@[simp] theorem Rule.haltEnded_pk (s : State) : (Rule.haltEnded s).pk = s.pk := s.noteClose_pk

/-- What stands when the halt has ended opens bins as before. -/
theorem State.newBin_haltEnded (s : State) (e k : Nat) :
    (Rule.haltEnded s).newBin e k = Rule.opened s k e (Rule.openTags s) := by
  have hframe : PieceFrame s (Rule.haltEnded s) := s.noteClose_frame
  rw [State.newBin_eq, hframe.opened, Rule.openTags_congr (Rule.haltEnded_pk s) (by rw [Rule.haltEnded_pt])]

/-- The current bin as it closes at a boundary (R114). -/
def Rule.done (s : State) (p : Piece) : Bin :=
  { p.cur with billet := s.pk.gaugeBillet, verdict := some (Rule.verdict s.params p.cur) }

theorem State.closeBin_cur (s : State) (p : Piece) : s.closeBin p.cur = Rule.done s p := by
  simp only [State.closeBin, verdictOf_eq]
  rfl

section
variable {s : State} {p : Piece} (hp : s.pt.piece = some p) (e : Nat)
include hp

/-- With a free record the next bin opens (R115). -/
theorem State.applyBoundary_opens (hlen : p.closed.length < 255) (hfree : s.pt.free ≠ 0) :
    s.applyBoundary e = (Rule.haltEnded s).setPt { s.pt with
      free := s.pt.free - 1, episode := false
      piece := some { p with
        closed := p.closed ++ [Rule.done s p], bounded := decide (e + s.params.binLen ≤ 4294967295)
        cur := Rule.opened s (p.closed.length + 1) e (Rule.openTags s) } } := by
  have hframe : PieceFrame s (Rule.haltEnded s) := s.noteClose_frame
  have hcount : p.closed.length + 1 < 256 := by omega
  unfold State.applyBoundary
  simp only [hp, Piece.binCount, hcount, if_true, State.noteClose_eq, Rule.haltEnded_pt, Nat.pos_of_ne_zero hfree,
    State.newBin_haltEnded, hframe.boundedFrom, State.closeBin_cur]
  rfl

/-- Without a free record the bin is coalesced, and POOL_EXHAUSTED raised once in an episode (R115). -/
theorem State.applyBoundary_coalesces (hlen : p.closed.length < 255) (hfree : s.pt.free = 0) :
    s.applyBoundary e =
      (if s.pt.episode then Rule.haltEnded s else (Rule.haltEnded s).raise .poolExhausted).setPt { s.pt with
        episode := true
        piece := some { p with
          flags := p.flags ||| 8, bounded := decide (e + s.params.binLen ≤ 4294967295)
          cur := { Rule.done s p with
            stop := min (e + s.params.binLen) 4294967295, verdict := none, coalesced := true } } } := by
  have hframe : PieceFrame s (Rule.haltEnded s) := s.noteClose_frame
  have hcount : p.closed.length + 1 < 256 := by omega
  unfold State.applyBoundary
  simp only [hp, Piece.binCount, hcount, if_true, State.noteClose_eq, Rule.haltEnded_pt, hfree, Nat.lt_irrefl, if_false,
    State.closeBin_cur, hframe.params]
  cases s.pt.episode
  · simp only [Bool.false_eq_true, if_false]
    rw [(hframe.trans (State.raise_frame _ _)).boundedFrom]
    simp only [Piece.flag, State.raise, State.setAu_pt, Rule.haltEnded_pt, hfree]
    rfl
  · simp only [if_true, hframe.boundedFrom, Piece.flag, Rule.haltEnded_pt, hfree]
    rfl

/-- A piece of 256 bins closes with reason SPLIT, and a CONTINUED piece opens (R120). -/
theorem State.applyBoundary_splits (hlen : 255 ≤ p.closed.length) :
    let w := (s.pieceEnded p .split e).withRecord
    s.applyBoundary e = w.setPt { w.pt with
      nextPiece := if s.pt.nextPiece < 65535 then s.pt.nextPiece + 1 else 1, free := w.pt.free - 1, episode := false
      piece := some {
        number := s.pt.nextPiece, start := e, flags := 1, closed := [], cur := Rule.opened s 0 e (Rule.openTags s)
        bounded := decide (e + s.params.binLen ≤ 4294967295) } } := by
  intro w
  have hcount : ¬ p.closed.length + 1 < 256 := by omega
  have hclose : s.closePiece .split e = s.pieceEnded p .split e := State.closePiece_eq hp .split e
  have hframe := s.pieceEnded_frame p .split e
  have hcrop := congrArg PieceTracker.frontCrop (s.pieceEnded_pt p .split e)
  have hnumber := congrArg PieceTracker.nextPiece (s.pieceEnded_pt p .split e)
  unfold State.applyBoundary
  simp only [hp, Piece.binCount, hcount, if_false, hclose, State.openPiece_continued, hframe.opened, hframe.params,
    Rule.openTags_congr (s.pieceEnded_pk p .split e) hcrop, hnumber]
  rfl

end

/-! ### The items at one coordinate (R99, R105, R107) -/

theorem zoneAfter_eq (zone : Option Nat) (c y : Nat) :
    zoneAfter zone c y = if c ≤ y then zone else some (max (zone.getD 0) c) := rfl

theorem Mark.closePoint_eq (m : Mark) :
    m.closePoint = min (if m.kind = .stop then m.stop + 1 else m.stop) 4294967295 := by
  unfold Mark.closePoint
  cases m.kind <;> rfl

theorem State.applyZone_eq (s : State) (y : Nat) (m : Mark) : s.applyZone y m = Rule.zoneMark y s m := by
  have hpiece : (fun p : Piece =>
      let p := { p with cur := { p.cur with tags := p.cur.tags ||| if m.kind = MarkKind.weld then 2 else 1 } }
      if m.est = true then p.flag .estimatedMark else p) = fun p => { p with
        flags := if m.est then p.flags ||| 4 else p.flags
        cur := { p.cur with tags := p.cur.tags ||| if m.kind = MarkKind.weld then 2 else 1 } } := by
    funext p
    cases m.est <;> rfl
  unfold State.applyZone Rule.zoneMark
  simp only [zoneAfter_eq, Mark.closePoint_eq, ← hpiece]
  rfl

/-- A partition of the queue at a coordinate is the one that the work there makes (R99). -/
theorem takeWhile_dropWhile_at {here later : List Mark} {y : Nat} (hhere : ∀ m ∈ here, m.start ≤ y)
    (hlater : ∀ m ∈ later, y < m.start) :
    ((here ++ later).takeWhile fun m => decide (m.start ≤ y)) = here ∧
    ((here ++ later).dropWhile fun m => decide (m.start ≤ y)) = later := by
  have hfirst : ∀ m ∈ here, (fun m : Mark => decide (m.start ≤ y)) m = true := fun m hm => decide_eq_true (hhere m hm)
  rw [List.takeWhile_append_of_pos hfirst, List.dropWhile_append_of_pos hfirst]
  cases later with
  | nil => simp
  | cons m l =>
    have hm : ¬ m.start ≤ y := Nat.not_le.2 (hlater m List.mem_cons_self)
    simp [hm]

/-- The work at one coordinate, with the queue's marks at or below it and above it named. -/
theorem State.applyAt_eq {s : State} {y : Nat} {here later : List Mark} (hqueue : s.pk.queue = here ++ later)
    (hhere : ∀ m ∈ here, m.start ≤ y) (hlater : ∀ m ∈ later, y < m.start) :
    s.applyAt y = (here.filter fun m => m.kind != .cut).foldl (Rule.zoneMark y)
      (State.boundaryAt ((here.filter fun m => m.kind == .cut).foldl (fun t m => t.applyCut y m.est)
        ((Rule.zonesClosed s y).setPk { (Rule.zonesClosed s y).pk with queue := later })) y) := by
  obtain ⟨htake, hdrop⟩ := takeWhile_dropWhile_at hhere hlater
  have hzone : (fun (t : State) (m : Mark) => t.applyZone y m) = Rule.zoneMark y := by
    funext t m
    exact t.applyZone_eq y m
  have hitems : s.applyAt y = ((s.pk.queue.takeWhile fun m => decide (m.start ≤ y)).filter fun m => m.kind != .cut).foldl
      (fun t m => t.applyZone y m) (State.boundaryAt (((s.pk.queue.takeWhile fun m => decide (m.start ≤ y)).filter
        fun m => m.kind == .cut).foldl (fun t m => t.applyCut y m.est) ((Rule.zonesClosed s y).setPk
          { (Rule.zonesClosed s y).pk with queue := s.pk.queue.dropWhile fun m => decide (m.start ≤ y) })) y) := rfl
  rw [hitems, hqueue, htake, hdrop, hzone]

/-- Settles O40: the boundary by the bins of the piece and the free records; the items in the order in which the work at a
coordinate takes them. -/
theorem boundaryApplied : Obligations.BoundaryApplied := by
  refine ⟨fun s p e hp => ?_, fun s y here later hqueue hhere hlater => ?_⟩
  · refine ⟨State.applyBoundary_opens hp e, State.applyBoundary_coalesces hp e, fun hlen _ => ?_⟩
    exact State.applyBoundary_splits hp e hlen
  · intro flagged cut bound u
    have hcut : (fun (t : State) (m : Mark) => t.applyCut y m.est) = cut := by
      funext t m
      simp only [cut, flagged, State.applyCut]
      cases m.est <;> rfl
    have hbound (t : State) : t.boundaryAt y = bound t := by
      simp only [State.boundaryAt, bound]
      cases t.pt.piece <;> rfl
    rw [State.applyAt_eq hqueue hhere hlater, hcut, hbound]

end Sys2Proof.Machine
end

section
/-! The press notices NOTE_RAM_STOP and NOTE_RAM_START (R85 to R91, R94 to R98, R102): the delivery of a mark by its place,
and each notice by the engine state and the press state. -/

namespace Sys2Proof.Machine

/-! ### The delivery of a mark (R95 to R97, R109) -/

section
variable {s : State} (look : Nat × Bool) (formed : Nat) {m : Mark}

theorem State.answerMark_queued (habove : s.pt.settled < m.start) (hnew : duplicateCut m s.pk.queue = false)
    (hroom : s.pk.queue.length < 16) :
    s.answerMark look formed m = ⟨s.setPk { s.pk with
      queue := s.pk.queue.takeWhile (fun q => decide (q.start ≤ m.start)) ++
        m :: s.pk.queue.dropWhile (fun q => decide (q.start ≤ m.start)) }, .ok, 0,
      noticeItems look formed .queued (some m)⟩ := by
  simp only [State.answerMark, State.deliverMark, Nat.not_le.2 habove, Nat.not_le.2 hroom, hnew, Bool.false_eq_true,
    if_false, insertMark_eq]
  rfl

theorem State.answerMark_lost (habove : s.pt.settled < m.start) (hnew : duplicateCut m s.pk.queue = false)
    (hfull : 16 ≤ s.pk.queue.length) :
    s.answerMark look formed m = ⟨s.raise .markOverflow, .queueFull, 0, noticeItems look formed .lost (some m)⟩ := by
  simp only [State.answerMark, State.deliverMark, Nat.not_le.2 habove, hfull, hnew, Bool.false_eq_true, if_false,
    if_true]
  rfl

/-- A STOP or WELD mark at or below the settled coordinate is applied there (R97, R109). -/
theorem State.answerMark_lateZone (hlate : m.start ≤ s.pt.settled) (hkind : m.kind ≠ .cut) :
    s.answerMark look formed m = ⟨s.lateZone m, .ok, 0, noticeItems look formed .appliedLate (some m)⟩ := by
  have hhand : s.handLate m = (s.lateZone m, .appliedLate) := by
    unfold State.handLate
    split
    · contradiction
    · rfl
  simp only [State.answerMark, State.deliverMark, hlate, if_true, hhand]
  rfl

end

theorem duplicateCut_of_kind {m : Mark} (h : m.kind ≠ .cut) (queue : List Mark) : duplicateCut m queue = false := by
  simp [duplicateCut, h]

theorem State.flagLate_eq {s : State} {x : Piece} (hx : s.pt.piece = some x) :
    s.flagLate = (s.raise .markLate).setPt { s.pt with piece := some (x.flag .lateMark) } := by
  simp only [State.flagLate, State.mapPiece, hx]
  rfl

/-- A late STOP or WELD mark: MARK_LATE, the zone, and the flags of the piece and the tag of its current bin (R97, R107,
R109). -/
theorem State.lateZone_eq {s : State} {x : Piece} (hx : s.pt.piece = some x) (m : Mark) :
    s.lateZone m = ((s.raise .markLate).setPk (if m.kind = .weld then
        { s.pk with weldZone := zoneAfter s.pk.weldZone m.closePoint s.pt.settled, gaugeBillet := m.billet.getD 0 }
      else { s.pk with stopZone := zoneAfter s.pk.stopZone m.closePoint s.pt.settled })).setPt
      { s.pt with piece := some { x with
        flags := if m.est then x.flags ||| 2 ||| 4 else x.flags ||| 2
        cur := { x.cur with tags := x.cur.tags ||| if m.kind = .weld then 2 else 1 } } } := by
  rw [State.lateZone, State.flagLate_eq hx]
  unfold State.applyZone
  cases m.est <;> rfl

/-! ### NOTE_RAM_STOP (R85, R87, R88) -/

theorem State.ramStop_tracks {s : State} (h : s.cc.engine.tracks = true) (arrival age : Nat) :
    let look := s.lt.lookup arrival age
    let p := s.dieCoord look.1
    s.ramStop arrival age =
      if s.pk.state = .stopped then s.taken .noEffect (noticeItems look p .noMark none)
      else State.answerMark (s.setPk { s.pk with state := .stopped, stopRec := some { coord := p, est := look.2 } })
        look p (stopMark s.params p look.2) := by
  unfold State.ramStop
  cases he : s.cc.engine
  case idle => rw [he] at h; cases h
  case switching => rw [he] at h; cases h
  all_goals rfl

/-- Settles O53: by the engine state, the press state and the place of the STOP mark. -/
theorem ramStopNoted : Obligations.RamStopNoted := by
  intro tag age s hs hage p look die half m k items idle answers
  have hrun {a : Answer} (h : s.ramStop s.lt.time age = a) : answers a := by
    have hread : natAt p 0 2 = age := natAt_whole hage
    refine exec_answered (c := .noteRamStop) hs rfl ?_
    rw [← h, State.runCommand, hread]
  have htracks (h : s.cc.engine.tracks = true) (hp : s.pk.state ≠ .stopped) :
      s.ramStop s.lt.time age = (s.setPk k).answerMark look die m := by
    rw [State.ramStop_tracks h, if_neg hp]
    rfl
  have hkind : m.kind ≠ .cut := MarkKind.noConfusion
  refine ⟨fun he => hrun ?_, fun he hp => hrun ?_, fun he hp => hrun ?_, fun he hp => hrun ?_, fun he hp => ⟨?_, ?_, ?_⟩⟩
  · simp only [State.ramStop, he, State.refuse]
  · simp only [State.ramStop, he, hp, if_true]
    rfl
  · simp only [State.ramStop, he, hp, if_false]
    rfl
  · rw [State.ramStop_tracks he, if_pos hp]
    rfl
  · intro habove hroom
    exact hrun ((htracks he hp).trans (State.answerMark_queued _ _ habove (duplicateCut_of_kind hkind _) hroom))
  · intro habove hfull
    exact hrun ((htracks he hp).trans (State.answerMark_lost _ _ habove (duplicateCut_of_kind hkind _) hfull))
  · intro x hlate hx close zone late
    have happlied := State.answerMark_lateZone (s := s.setPk k) look die hlate hkind
    rw [State.lateZone_eq (s := s.setPk k) hx m] at happlied
    exact hrun ((htracks he hp).trans happlied)

/-! ### NOTE_RAM_START (R85, R89 to R91) -/

theorem State.ramStart_pushing {s : State} (h : s.cc.engine ≠ .switching) (hp : s.pk.state = .pushing)
    (arrival age billet : Nat) : s.ramStart arrival age billet = s.refuse .wrongState 0 := by
  unfold State.ramStart
  simp only [hp, if_true]
  split
  · contradiction
  all_goals rfl

/-- After UNKNOWN, or without a stop record, a ram start builds no mark (R89, R91). -/
theorem State.ramStart_unmarked {s : State} (h : s.cc.engine.tracks = true) (hp : s.pk.state ≠ .pushing)
    (hnone : s.pk.stopRec = none ∨ s.pk.state = .unknown) (arrival age billet : Nat) :
    s.ramStart arrival age billet = (s.setPk (s.pk.started billet)).taken .ok
      (noticeItems (s.lt.lookup arrival age) (s.dieCoord (s.lt.lookup arrival age).1) .noMark none) := by
  unfold State.ramStart
  simp only [hp, if_false]
  cases he : s.cc.engine
  case idle => rw [he] at h; cases h
  case switching => rw [he] at h; cases h
  all_goals
    dsimp only
    split
    · rename_i hstate hrec
      simp [hstate, hrec] at hnone
    · rfl

/-- Behind a stop a ram start of another billet builds a WELD mark (R89, R90). -/
theorem State.ramStart_stopped {s : State} {r : StopRec} (h : s.cc.engine.tracks = true) (hp : s.pk.state = .stopped)
    (hr : s.pk.stopRec = some r) (arrival age billet : Nat) :
    let look := s.lt.lookup arrival age
    let t := s.setPk { s.pk with state := .pushing, billet := billet }
    s.ramStart arrival age billet =
      if billet = s.pk.billet then t.taken .ok (noticeItems look (s.dieCoord look.1) .noMark none)
      else t.answerMark look (s.dieCoord look.1) (weldMark s.params r billet) := by
  intro look t
  have ht : s.setPk (s.pk.started billet) = t := by simp [PressTracker.started, hr, t]
  unfold State.ramStart
  simp only [hp, hr, ht, reduceCtorEq, if_false]
  cases he : s.cc.engine
  case idle => rw [he] at h; cases h
  case switching => rw [he] at h; cases h
  all_goals rfl

/-- Settles O54: by the engine state, the press state, the stop record, the billet and the place of the WELD mark. -/
theorem ramStartNoted : Obligations.RamStartNoted := by
  intro tag age billet s hs hage hbillet p look die items idle answers k
  have hrun {a : Answer} (h : s.ramStart s.lt.time age billet = a) : answers a := by
    have hreadAge : natAt p 0 2 = age := natAt_front hage
    have hreadBillet : natAt p 2 2 = billet := (natAt_behind le_rfl).trans (natAt_whole hbillet)
    refine exec_answered (c := .noteRamStart) hs rfl ?_
    rw [← h, State.runCommand, hreadAge, hreadBillet]
  refine ⟨fun he => hrun ?_, fun he hp => hrun (State.ramStart_pushing he hp _ _ _), fun he hp => hrun ?_,
    fun he hp hnone => hrun ?_, fun r he hp hr => ?_⟩
  · simp only [State.ramStart, he, State.refuse]
  · simp only [State.ramStart, he, hp, if_false]
    rfl
  · rw [State.ramStart_unmarked he hp hnone]
    cases hrec : s.pk.stopRec <;> simp [State.taken, PressTracker.started, hrec, k, items] <;> rfl
  · intro par m
    have hstopped := State.ramStart_stopped he hp hr s.lt.time age billet
    have hnew (h : billet ≠ s.pk.billet) : s.ramStart s.lt.time age billet = (s.setPk k).answerMark look die m :=
      hstopped.trans (if_neg h)
    have hkind : m.kind ≠ .cut := MarkKind.noConfusion
    refine ⟨fun hsame => hrun (hstopped.trans (if_pos hsame)), fun hb habove hroom => ?_, fun hb habove hfull => ?_,
      fun x hb hlate hx => ?_⟩
    · exact hrun ((hnew hb).trans (State.answerMark_queued _ _ habove (duplicateCut_of_kind hkind _) hroom))
    · exact hrun ((hnew hb).trans (State.answerMark_lost _ _ habove (duplicateCut_of_kind hkind _) hfull))
    · have happlied := State.answerMark_lateZone (s := s.setPk k) look die hlate hkind
      have hclose : m.closePoint = m.stop := Nat.min_eq_left (Nat.min_le_right _ _)
      rw [State.lateZone_eq (s := s.setPk k) hx m, hclose] at happlied
      exact hrun ((hnew hb).trans happlied)

end Sys2Proof.Machine
end

section
/-! NOTE_CUT (R85, R92 to R97, R119): the bins that a late cut folds, the piece that closes and the one that opens, and the
walk from the cut up to the settled coordinate. -/

namespace Sys2Proof.Machine

/-! ### The fold of bins (R119) -/

theorem WorstClass.higher_eq (a b : WorstClass) : a.higher b =
    if a = .out ∨ b = .out then .out else if a = .warn ∨ b = .warn then .warn
    else if a = .inTol ∨ b = .inTol then .inTol else .ungraded := by cases a <;> cases b <;> rfl

theorem optMin_eq (a b : Option Nat) : optMin a b = (a.toList ++ b.toList).min? := by cases a <;> cases b <;> rfl

theorem optMax_eq (a b : Option Nat) : optMax a b = (a.toList ++ b.toList).max? := by cases a <;> cases b <;> rfl

theorem foldBin_eq (a b : Bin) : foldBin a b = Rule.folded a b := by
  simp only [foldBin, Rule.folded, optMin_eq, optMax_eq]
  congr 2
  funext g h
  rw [foldGauge, WorstClass.higher_eq]
  congr 1
  cases g.dev <;> cases h.dev <;> rfl

theorem foldl_folded_start (gone : List Bin) (b : Bin) : (gone.foldl Rule.folded b).start = b.start :=
  foldl_reading Bin.start Rule.folded (fun _ _ => rfl) gone b

/-- The bins at or above the cut fold into the last one below it (R119). -/
theorem Piece.foldAt_eq {p : Piece} {x : Nat} {below gone : List Bin} {last : Bin}
    (hbins : p.closed ++ [p.cur] = below ++ last :: gone) (hbelow : ∀ b ∈ below, b.start < x) (hlast : last.start < x)
    (hgone : ∀ b ∈ gone, x ≤ b.start) :
    p.foldAt x = { p with closed := below, cur := gone.foldl Rule.folded { last with verdict := none } } := by
  have hkeep : (p.bins.filter fun b => decide (b.start < x)) = below ++ [last] := by
    rw [Piece.bins, hbins]
    simp only [List.filter_append, List.filter_cons, hlast, decide_true, if_true]
    rw [List.filter_eq_self.2 fun b hb => decide_eq_true (hbelow b hb), List.filter_eq_nil_iff.2 fun b hb => by
      simpa using hgone b hb]
  have hfold : (p.bins.filter fun b => decide (x ≤ b.start)) = gone := by
    rw [Piece.bins, hbins]
    simp only [List.filter_append, List.filter_cons, Nat.not_le.2 hlast, decide_false, Bool.false_eq_true, if_false]
    rw [List.filter_eq_nil_iff.2 fun b hb => by simpa using hbelow b hb,
      List.filter_eq_self.2 fun b hb => decide_eq_true (hgone b hb), List.nil_append]
  have hstep : foldBin = Rule.folded := by
    funext a b
    exact foldBin_eq a b
  unfold Piece.foldAt
  simp only [hkeep, hfold, hstep, List.getLast?_append, List.getLast?_singleton, Option.some_or, List.dropLast_concat]

/-! ### The piece that opens at a cut (R118) -/

/-- The piece that opens at a cut at `x` (R112, R116). Its front-crop tag stands for a zone of length 0 too (log 27), and its
current bin's billet is 0 (log 38). -/
def State.pieceFrom (s : State) (x : Nat) (flags : PieceFlags) : Piece :=
  { number := s.pt.nextPiece, start := x, flags := flags, closed := []
    bounded := decide (x + s.params.binLen ≤ 4294967295)
    cur := Rule.opened s 0 x ((if s.pk.stopZone = none then 0 else 1) ||| (if s.pk.weldZone = none then 0 else 2) |||
      (if s.params.frontCrop = 0 then 0 else 4)) }

theorem zoneTag_or_crop (zone : Option Nat) : ((if zone = none then 0 else 4) ||| 4 : ZoneSet) = 4 := by
  cases zone
  · rfl
  · exact BitVec.or_self

/-- The open piece with the flag of an ESTIMATED mark (R107, R118). -/
def Piece.estimated (p : Piece) (est : Bool) : Piece := { p with flags := if est then p.flags ||| 4 else p.flags }

section
variable {s : State} {p : Piece} (hp : s.pt.piece = some p) (x : Nat)
include hp

/-- A cut with the tags of bin 0 written out. -/
theorem State.reopen_eq :
    let w := (s.pieceEnded p .cut x).beforeOpening x false
    (s.closePiece .cut x).openPiece x false = w.setPt { w.pt with
      nextPiece := if s.pt.nextPiece < 65535 then s.pt.nextPiece + 1 else 1, free := w.pt.free - 1, episode := false
      piece := some (s.pieceFrom x 0) } := by
  intro w
  have hclose : s.closePiece .cut x = s.pieceEnded p .cut x := State.closePiece_eq hp .cut x
  have hframe := s.pieceEnded_frame p .cut x
  have hnumber := congrArg PieceTracker.nextPiece (s.pieceEnded_pt p .cut x)
  have hpk : w.pk = s.pk := (State.withRecord_pk _).trans (s.pieceEnded_pk p .cut x)
  have htags : (Rule.openTags w ||| if s.params.frontCrop = 0 then 0 else 4) =
      (if s.pk.stopZone = none then 0 else 1) ||| (if s.pk.weldZone = none then 0 else 2) |||
        (if s.params.frontCrop = 0 then 0 else 4) := by
    have hzone : w.pt.frontCrop = (s.pieceEnded p .cut x).zoneFrom x false := rfl
    have hcrop : ((if w.pt.frontCrop = none then 0 else 4) ||| if s.params.frontCrop = 0 then 0 else 4 : ZoneSet) =
        if s.params.frontCrop = 0 then 0 else 4 := by
      rw [hzone]
      simp only [State.zoneFrom, hframe.params]
      by_cases h : s.params.frontCrop = 0
      · have hempty : ¬ x < min (x + 0) 4294967295 := by omega
        simp only [h, hempty, if_true, if_false, Bool.false_eq_true]
        rfl
      · simp only [h, if_false]
        exact zoneTag_or_crop _
    rw [Rule.openTags, hpk, BitVec.or_assoc, hcrop]
  rw [hclose, State.openPiece_eq]
  simp only [hframe.opened, hframe.params, hnumber, Bool.false_eq_true, false_or, if_false]
  rw [htags]
  rfl

theorem State.applyCut_eq (est : Bool) :
    let w := (s.pieceEnded (p.estimated est) .cut x).beforeOpening x false
    s.applyCut x est = w.setPt { w.pt with
      nextPiece := if s.pt.nextPiece < 65535 then s.pt.nextPiece + 1 else 1, free := w.pt.free - 1, episode := false
      piece := some (s.pieceFrom x (if est then 4 else 0)) } := by
  cases est with
  | false => exact State.reopen_eq hp x
  | true =>
    let t := s.setPt { s.pt with piece := some (p.estimated true) }
    have hmark : s.mapPiece (·.flag .estimatedMark) = t := by
      rw [State.mapPiece, hp]
      rfl
    have hended : t.pieceEnded (p.estimated true) .cut x = s.pieceEnded (p.estimated true) .cut x := rfl
    have hreopen := State.reopen_eq (s := t) (p := p.estimated true) rfl x
    rw [hended] at hreopen
    simp only [State.applyCut, if_true, hmark, hreopen]
    have hopened : (t.pieceFrom x 0).flag .estimatedMark = s.pieceFrom x 4 := by
      have hflag : (0 : PieceFlags) ||| PieceFlag.estimatedMark.bit = 4 := by decide
      exact congrArg (fun f => { s.pieceFrom x 0 with flags := f }) hflag
    generalize (s.pieceEnded (p.estimated true) .cut x).beforeOpening x false = w
    simp only [State.mapPiece, State.setPt_pt, Option.map_some, hopened]
    rfl

end

end Sys2Proof.Machine
end

section
/-! NOTE_CUT (R85, R92 to R97, R119): a late cut, the zones that close on the walk behind it, and the notice by the engine
state and the place of its mark. -/

namespace Sys2Proof.Machine

/-! ### A walk that closes zones alone (R105, R108) -/

/-- Up to `limit` stands no mark and no end of a bin. -/
structure State.ZonesOnly (s : State) (limit : Nat) : Prop where
  marks : ∀ m ∈ s.pk.queue, limit < m.start
  bins : ∀ p, s.pt.piece = some p → p.bounded = true → limit < p.cur.stop

theorem State.boundaryAt_within {s : State} {y : Nat} (h : ∀ p, s.pt.piece = some p → p.bounded = true → y < p.cur.stop) :
    s.boundaryAt y = s := by
  unfold State.boundaryAt
  split
  · rfl
  · rename_i p hp
    exact if_neg fun ⟨hbounded, hstop⟩ => (h p hp hbounded).ne' hstop

theorem State.ZonesOnly.applyAt {s : State} {limit y : Nat} (hs : s.ZonesOnly limit) (hy : y ≤ limit) :
    s.applyAt y = Rule.zonesClosed s y := by
  have hboundary : (Rule.zonesClosed s y).boundaryAt y = Rule.zonesClosed s y :=
    State.boundaryAt_within fun p hp hbounded => hy.trans_lt (hs.bins p hp hbounded)
  rw [State.applyAt_eq (here := []) (later := s.pk.queue) rfl nofun fun m hm => hy.trans_lt (hs.marks m hm)]
  exact hboundary

/-- What the walk from `s` leaves when it has closed zones alone up to `z`, where the front-crop zone closes at `close`. -/
structure ZonesPassed (s : State) (close : Nat) (t : State) (z : Nat) : Prop where
  rq : t.rq = s.rq
  queue : t.pk.queue = s.pk.queue
  pt : t.pt = { s.pt with frontCrop := if z < close then some close else none }

section
variable {s : State} {limit close : Nat} (hs : s.ZonesOnly limit)
include hs

theorem ZonesPassed.zonesOnly {t : State} {z : Nat} (h : ZonesPassed s close t z) : t.ZonesOnly limit :=
  ⟨h.queue ▸ hs.marks, by rw [h.pt]; exact hs.bins⟩

/-- The next item is no later than the close of the front-crop zone. -/
theorem ZonesPassed.next {t : State} {y c : Nat} (h : ZonesPassed s close t y) (hc : t.nextItem y limit = some c) :
    ZonesPassed s close (t.applyAt c) c := by
  obtain ⟨-, hyc, hlimit⟩ := State.nextItem_mem hc
  rw [(h.zonesOnly hs).applyAt hlimit]
  have hpt : (Rule.zonesClosed t c).pt =
      { t.pt with frontCrop := if t.pt.frontCrop = some c then none else t.pt.frontCrop } := rfl
  refine ⟨h.rq, h.queue, ?_⟩
  rw [hpt, h.pt]
  by_cases hopen : y < close
  · have hitem : close ∈ t.itemCoords := by simp [State.itemCoords, h.pt, hopen]
    have hle : c ≤ close := State.nextItem_le hc close hitem hopen
    by_cases hclose : close = c
    · simp [hclose]
    · have hlt : c < close := by omega
      simp [hopen, hclose, hlt]
  · have hpast : ¬ c < close := by omega
    simp [hopen, hpast]

theorem State.walk_zones {y : Nat} (hy : y ≤ limit) (hcrop : s.pt.frontCrop = if y < close then some close else none) :
    ZonesPassed s close (State.walk (limit - y) s y limit) limit := by
  have hstart : ZonesPassed s close s y := ⟨rfl, rfl, by rw [← hcrop]⟩
  obtain ⟨z, -, hz, hpassed, hnone⟩ := State.walk_ends (P := ZonesPassed s close) (limit := limit)
    (fun _ _ _ h hc => ZonesPassed.next hs h hc) _ s y hstart hy le_rfl
  have hclose : z < close ↔ limit < close := by
    refine ⟨fun h => State.nextItem_eq_none.1 hnone close ?_ h, hz.trans_lt⟩
    simp [State.itemCoords, hpassed.pt, h]
  exact ⟨hpassed.rq, hpassed.queue, by rw [hpassed.pt, if_congr hclose rfl rfl]⟩

end

/-! ### A late cut (R97, R119) -/

/-- The open piece `p` in which a cut at `x` was late: with LATE_MARK, and with its bins at or above `x` folded. -/
def Piece.lateAt (p : Piece) (x : Nat) : Piece := (p.flag .lateMark).foldAt x

/-- The state of a late cut at `x` in which the open piece `p` closes: the folded bins' records are back in the pool. -/
def State.folded (s : State) (p : Piece) (x : Nat) : State :=
  (s.raise .markLate).setPt
    { s.pt with piece := some (p.lateAt x), free := s.pt.free + (p.binCount - (p.lateAt x).binCount) }

/-- The flags and the bins of the piece that a late cut closes. -/
theorem Piece.lateAt_estimated {p : Piece} {x : Nat} {below gone : List Bin} {last : Bin}
    (hbins : p.closed ++ [p.cur] = below ++ last :: gone) (hbelow : ∀ b ∈ below, b.start < x) (hlast : last.start < x)
    (hgone : ∀ b ∈ gone, x ≤ b.start) (est : Bool) :
    (p.lateAt x).estimated est = { p with
      flags := p.flags ||| 2 ||| if est then 4 else 0, closed := below
      cur := gone.foldl Rule.folded { last with verdict := none } } := by
  rw [Piece.lateAt, Piece.foldAt_eq (p := p.flag .lateMark) hbins hbelow hlast hgone]
  cases est
  · exact congrArg (fun f => { p with
      flags := f, closed := below, cur := gone.foldl Rule.folded { last with verdict := none } }) BitVec.or_zero.symm
  · rfl

/-- A piece whose last bin starts below the cut keeps it. -/
theorem Rule.report_bins_cut {s : State} {p : Piece} {x : Nat} (h : p.cur.start < x) :
    (Rule.report s p .cut x).bins = (p.closed ++ [Rule.closed s p.cur x]).map (Rule.cropped s.params x) := by
  simp only [Rule.report, h.ne', false_and, if_false, if_true]

theorem State.beforeOpening_profileKept (s : State) (p : Nat) (continued : Bool) :
    ProfileKept s (s.beforeOpening p continued) := by
  refine ProfileKept.trans (t := s.withRecord) ?_ (.of_au rfl rfl)
  unfold State.withRecord
  split
  · exact s.dropOldest_profileKept
  · exact .refl s

theorem State.beforeOpening_cc (s : State) (p : Nat) (continued : Bool) : (s.beforeOpening p continued).cc = s.cc := by
  change s.withRecord.cc = s.cc
  unfold State.withRecord
  split
  · exact s.dropOldest_cc
  · rfl

section
variable {s : State} {p : Piece} (hp : s.pt.piece = some p) (x : Nat) (est : Bool)
include hp

theorem State.applyCut_pieceReady : FlagSet.has (s.applyCut x est).au.flags .pieceReady = true := by
  rw [State.applyCut_eq hp]
  exact (State.beforeOpening_profileKept _ x false).flags _ (State.pieceEnded_flag _ _ _ _)

/-- A cut ends a halt (R132). -/
theorem State.applyCut_engine :
    (s.applyCut x est).cc.engine = if s.cc.engine = .halting then .ready else s.cc.engine := by
  rw [State.applyCut_eq hp, ← State.pieceEnded_engine s (p.estimated est) .cut x]
  exact congrArg (·.engine) (State.beforeOpening_cc _ x false)

/-- The piece that a cut opens (R116, R118). -/
theorem State.applyCut_piece : (s.applyCut x est).pt.piece = some (s.pieceFrom x (if est then 4 else 0)) := by
  rw [State.applyCut_eq hp]
  rfl

theorem State.applyCut_nextPiece :
    (s.applyCut x est).pt.nextPiece = if s.pt.nextPiece < 65535 then s.pt.nextPiece + 1 else 1 := by
  rw [State.applyCut_eq hp]
  rfl

/-- The front-crop zone of the piece that a cut opens (R110). -/
theorem State.applyCut_frontCrop : (s.applyCut x est).pt.frontCrop =
    if x < min (x + s.params.frontCrop) 4294967295 then some (min (x + s.params.frontCrop) 4294967295) else none := by
  have hparams := (s.pieceEnded_frame (p.estimated est) .cut x).params
  rw [State.applyCut_eq hp, ← hparams]
  rfl

/-- The report of the piece that a cut ends is the newest, where the opening piece finds a free record (R117, R157). -/
theorem State.applyCut_reports (hfree : s.pt.free ≠ 0) : (s.applyCut x est).rq.reports =
    (if s.rq.reports.length < 6 then s.rq.reports else s.rq.reports.drop 1) ++
      [Rule.report s (p.estimated est) .cut x] := by
  have hended : (s.pieceEnded (p.estimated est) .cut x).pt.free ≠ 0 :=
    ((Nat.pos_of_ne_zero hfree).trans_le (State.pieceEnded_free_le _ _ _ _)).ne'
  have hrecord : (s.pieceEnded (p.estimated est) .cut x).withRecord = s.pieceEnded (p.estimated est) .cut x :=
    if_neg hended
  rw [State.applyCut_eq hp, ← State.pieceEnded_reports, State.beforeOpening, hrecord]
  rfl

/-- A late cut: the piece with its folded bins ends, a piece opens, and its items up to the settled coordinate follow. -/
theorem State.lateCut_eq :
    s.lateCut x est = State.walk (s.pt.settled - x) ((s.folded p x).applyCut x est) x s.pt.settled := by
  have hsettled : ((s.folded p x).applyCut x est).pt.settled = s.pt.settled :=
    (State.applyCut_profileKept (s.folded p x) x est).settled
  simp only [State.lateCut, State.flagLate_eq hp]
  change State.walk (((s.folded p x).applyCut x est).pt.settled - x) _ x ((s.folded p x).applyCut x est).pt.settled = _
  rw [hsettled]
  rfl

theorem State.lateCut_markLate : FlagSet.has (s.lateCut x est).au.flags .markLate = true := by
  rw [State.lateCut_eq hp]
  refine (State.walk_profileKept _ _ _ _).flags _ ?_
  exact (State.applyCut_profileKept (s.folded p x) x est).flags _ (State.raise_has s .markLate)

theorem State.lateCut_pieceReady : FlagSet.has (s.lateCut x est).au.flags .pieceReady = true := by
  rw [State.lateCut_eq hp]
  exact (State.walk_profileKept _ _ _ _).flags _ (State.applyCut_pieceReady rfl x est)

theorem State.lateCut_isSome : (s.lateCut x est).pt.piece.isSome = true := by
  rw [State.lateCut_eq hp]
  refine (State.walk_stays _ _ _ _).piece ?_
  rw [State.applyCut_piece (s := s.folded p x) rfl x est]
  rfl

/-- The walk behind the cut does not meet a halt, which the cut has ended. -/
theorem State.lateCut_engine :
    (s.lateCut x est).cc.engine = if s.cc.engine = .halting then .ready else s.cc.engine := by
  have hcut : ((s.folded p x).applyCut x est).cc.engine = if s.cc.engine = .halting then .ready else s.cc.engine :=
    State.applyCut_engine rfl x est
  have hended : ((s.folded p x).applyCut x est).cc.engine ≠ .halting := by
    rw [hcut]
    split
    · nofun
    · assumption
  rw [State.lateCut_eq hp, (State.walk_stays _ _ _ _).context hended, hcut]

/-- A late cut whose piece ends no bin up to the settled coordinate: the walk closes zones alone. -/
theorem State.lateCut_open (hmarks : s.MarksSound) (hlate : x ≤ s.pt.settled) (hfree : s.pt.free ≠ 0)
    (hbin : s.pt.settled < x + s.params.binLen) :
    let close := min (x + s.params.frontCrop) 4294967295
    (s.lateCut x est).rq.reports = (if s.rq.reports.length < 6 then s.rq.reports else s.rq.reports.drop 1) ++
      [Rule.report s ((p.lateAt x).estimated est) .cut x] ∧
    (s.lateCut x est).pt.frontCrop = (if s.pt.settled < close then some close else none) ∧
    (s.lateCut x est).pt.nextPiece = (if s.pt.nextPiece < 65535 then s.pt.nextPiece + 1 else 1) ∧
    (s.lateCut x est).pt.piece = some (s.pieceFrom x (if est then 4 else 0)) := by
  intro close
  have hfolded : (s.folded p x).pt.free ≠ 0 := ((Nat.pos_of_ne_zero hfree).trans_le (Nat.le_add_right _ _)).ne'
  have hpiece := State.applyCut_piece (s := s.folded p x) rfl x est
  have hqueue : ((s.folded p x).applyCut x est).pk.queue = s.pk.queue :=
    congrArg PressTracker.queue (State.applyCut_pk (s.folded p x) x est)
  have hzones : ((s.folded p x).applyCut x est).ZonesOnly s.pt.settled := by
    refine ⟨hqueue ▸ hmarks.2.2, fun q hq hbounded => ?_⟩
    obtain rfl := Option.some.inj (hpiece.symm.trans hq)
    have hlast : x + s.params.binLen ≤ 4294967295 := of_decide_eq_true hbounded
    exact hbin.trans_le (le_min le_rfl hlast)
  have hwalk := State.walk_zones hzones hlate (State.applyCut_frontCrop rfl x est)
  rw [← State.lateCut_eq hp] at hwalk
  refine ⟨?_, ?_, ?_, ?_⟩
  · rw [hwalk.rq]
    exact State.applyCut_reports rfl x est hfolded
  · rw [hwalk.pt]
    rfl
  · rw [hwalk.pt]
    exact State.applyCut_nextPiece rfl x est
  · rw [hwalk.pt]
    exact hpiece

end

/-! ### NOTE_CUT (R85, R92 to R97) -/

section
variable {s : State} (look : Nat × Bool) {x : Nat}

theorem duplicateCut_eq (m : Mark) (queue : List Mark) : duplicateCut m queue = true ↔
    m.kind = .cut ∧ ∃ q ∈ queue, q.kind = .cut ∧ q.start = m.start := by
  simp [duplicateCut]

theorem State.cutNotice_tracks (h : s.cc.engine.tracks = true) (arrival age : Nat) :
    let look := s.lt.lookup arrival age
    s.cutNotice arrival age = s.answerMark look (s.sawCoord look.1) (cutMark (s.sawCoord look.1) look.2) := by
  unfold State.cutNotice
  cases he : s.cc.engine
  case idle => rw [he] at h; cases h
  case switching => rw [he] at h; cases h
  all_goals rfl

/-- A second CUT mark at one coordinate (R93). -/
theorem State.answerMark_duplicate {m : Mark} (habove : s.pt.settled < m.start)
    (htwin : duplicateCut m s.pk.queue = true) (formed : Nat) :
    s.answerMark look formed m = ⟨s, .noEffect, 0, noticeItems look formed .duplicate (some m)⟩ := by
  simp only [State.answerMark, State.deliverMark, Nat.not_le.2 habove, htwin, if_false, if_true]
  rfl

/-- A cut at or below the start of the open piece is dropped (R97). -/
theorem State.answerMark_dropped {p : Piece} (hp : s.pt.piece = some p) (hlate : x ≤ s.pt.settled) (hstart : x ≤ p.start)
    (est : Bool) (formed : Nat) : s.answerMark look formed (cutMark x est) =
      ⟨s, .noEffect, 0, noticeItems look formed .dropped (some (cutMark x est))⟩ := by
  have hhand : s.handLate (cutMark x est) = (s, .dropped) := by
    simp only [State.handLate, cutMark, hp, Nat.not_lt.2 hstart, if_false]
  have hlate' : (cutMark x est).start ≤ s.pt.settled := hlate
  simp only [State.answerMark, State.deliverMark, hlate', if_true, hhand]
  rfl

theorem State.answerMark_lateCut {p : Piece} (hp : s.pt.piece = some p) (hlate : x ≤ s.pt.settled) (hstart : p.start < x)
    (est : Bool) (formed : Nat) : s.answerMark look formed (cutMark x est) =
      ⟨s.lateCut x est, .ok, 0, noticeItems look formed .appliedLate (some (cutMark x est))⟩ := by
  have hhand : s.handLate (cutMark x est) = (s.lateCut x est, .appliedLate) := by
    simp only [State.handLate, cutMark, hp, hstart, if_true]
  have hlate' : (cutMark x est).start ≤ s.pt.settled := hlate
  simp only [State.answerMark, State.deliverMark, hlate', if_true, hhand]
  rfl

end

/-- Settles O55: by the engine state and the place of the CUT mark; a late cut by its fold, its report and the piece that
opens, with the walk behind it over zones alone where no bin ends. -/
theorem cutNoted : Obligations.CutNoted := by
  intro tag age s hs hage p look saw m items idle answers twin
  have hrun {a : Answer} (h : s.cutNotice s.lt.time age = a) : answers a := by
    have hread : natAt p 0 2 = age := natAt_whole hage
    refine exec_answered (c := .noteCut) hs rfl ?_
    rw [← h, State.runCommand, hread]
  have htwin : duplicateCut m s.pk.queue = true ↔ twin := by simp [duplicateCut_eq, m, twin]
  have hnew (h : ¬ twin) : duplicateCut m s.pk.queue = false := Bool.eq_false_iff.2 fun hdup => h (htwin.1 hdup)
  refine ⟨fun he => hrun ?_, fun he => hrun ?_, fun he => ?_⟩
  · simp only [State.cutNotice, he, State.refuse]
  · simp only [State.cutNotice, he]
    rfl
  have hmark {a : Answer} (h : s.answerMark look saw m = a) : answers a :=
    hrun ((State.cutNotice_tracks he s.lt.time age).trans h)
  have hlate {x : Piece} (hsaw : saw ≤ s.pt.settled) (hx : s.pt.piece = some x) (hstart : x.start < saw) :
      answers ⟨s.lateCut saw look.2, .ok, 0, items .appliedLate⟩ :=
    hmark (State.answerMark_lateCut look hx hsaw hstart look.2 saw)
  refine ⟨fun habove h => hmark (State.answerMark_duplicate look habove (htwin.2 h) saw),
    fun habove h hfull => hmark (State.answerMark_lost look saw habove (hnew h) hfull),
    fun habove h hroom => hmark (State.answerMark_queued look saw habove (hnew h) hroom),
    fun x hsaw hx hstart => hmark (State.answerMark_dropped look hx hsaw hstart look.2 saw),
    fun x hsaw hx hstart => ⟨_, hlate hsaw hx hstart, State.lateCut_markLate hx _ _, State.lateCut_pieceReady hx _ _,
      State.lateCut_isSome hx _ _, (s.lateCut_profileKept _ _).settled, (s.lateCut_frame _ _).lt,
      State.lateCut_engine hx _ _⟩, ?_⟩
  intro x below last gone hsaw hx hstart hmarks hbins hbelow hlast hgone est y r close
  have hy : (x.lateAt saw).estimated look.2 = y := Piece.lateAt_estimated hbins hbelow hlast hgone look.2
  have hcur : y.cur.start < saw := by
    rw [foldl_folded_start]
    exact hlast
  refine ⟨Piece.foldAt_eq hbins hbelow hlast hgone, Rule.report_bins_cut hcur, fun hfree hbin => ?_⟩
  have hopen := State.lateCut_open hx saw look.2 hmarks hsaw hfree hbin
  rw [hy] at hopen
  exact ⟨_, hlate hsaw hx hstart, hopen⟩

end Sys2Proof.Machine
end

section
/-! The commit of a switch or of a revert (R135, R142), block by block: the open piece closes with reason DIE_END, and
every block takes its part. -/

namespace Sys2Proof.Machine

/-! ### The Context Controller's part (R129, R136, R142) -/

/-- The die slots when the active one has been left: it is not busy, and its link is the one given, if any. -/
def Context.leave (x : Context) (link : Option (Option SlotLink)) : Vector DieSlot 8 :=
  match x.active with
  | none => x.slots
  | some i => x.slots.set i { x.slots[i] with busy := false, link := link.getD x.slots[i].link }

/-- The Context Controller after its part of a commit, but for the engine state and the compilation. -/
def Context.switched (x : Context) (c : Commit) : Context :=
  let slots := x.leave c.leftLink
  { x with
    slots := slots.set c.target { slots[c.target] with busy := true, link := c.targetLink }
    active := some c.target, activeDie := c.die, activation := x.activation.set c.target c.activation, haltBin := none
    outcome := { kind := .pending, slot := some c.target, die := c.die, reverted := c.reverted, missing := 0 } }

theorem Context.leave_getElem (x : Context) (link : Option (Option SlotLink)) (j : Fin 8) : (x.leave link)[j] =
    if x.active = some j then { x.slots[j] with busy := false, link := link.getD x.slots[j].link } else x.slots[j] := by
  unfold Context.leave
  cases x.active with
  | none => rfl
  | some i =>
    by_cases hij : i = j
    · subst hij
      simp
    · have hne : i.val ≠ j.val := fun e => hij (Fin.ext e)
      simp [Vector.getElem_set_ne _ _ hne, hij]

theorem State.clearBusy_some {s : State} {i : Fin 8} (h : s.cc.active = some i) :
    s.clearBusy = s.putSlot i { s.dieSlot i with busy := false } := by simp only [State.clearBusy, h]

theorem State.writeLeftLink_some {s : State} {i : Fin 8} (h : s.cc.active = some i) (link : Option SlotLink) :
    s.writeLeftLink (some link) = s.putSlot i { s.dieSlot i with link := link } := by
  simp only [State.writeLeftLink, h]

theorem State.leave_eq (s : State) (link : Option (Option SlotLink)) :
    (s.writeLeftLink link).clearBusy = s.setCc { s.cc with slots := s.cc.leave link } := by
  cases hactive : s.cc.active with
  | none =>
    have hleave : s.cc.leave link = s.cc.slots := by simp only [Context.leave, hactive]
    have hwrite : s.writeLeftLink link = s := by simp only [State.writeLeftLink, hactive]
    have hclear : s.clearBusy = s := by simp only [State.clearBusy, hactive]
    rw [hwrite, hclear, hleave]
    rfl
  | some i =>
    have hleave : s.cc.leave link =
        s.cc.slots.set i { s.cc.slots[i] with busy := false, link := link.getD s.cc.slots[i].link } := by
      simp only [Context.leave, hactive]
    rw [hleave]
    cases link with
    | none =>
      have hwrite : s.writeLeftLink none = s := by simp only [State.writeLeftLink, hactive]
      rw [hwrite, State.clearBusy_some hactive]
      rfl
    | some l =>
      have hactive' (d : DieSlot) : (s.putSlot i d).cc.active = some i := hactive
      rw [State.writeLeftLink_some hactive, State.clearBusy_some (hactive' _)]
      simp [State.putSlot, State.dieSlot]

theorem State.commitContext_eq (s : State) (c : Commit) : s.commitContext c = s.setCc (s.cc.switched c) := by
  unfold State.commitContext
  rw [State.leave_eq]
  rfl

/-- The slot switched to is busy and has its link, and keeps the rest. -/
theorem Context.switched_target (x : Context) (c : Commit) : (x.switched c).slots[c.target] =
    { x.slots[c.target] with busy := true, link := c.targetLink } := by
  have hset : (x.switched c).slots[c.target] =
      { (x.leave c.leftLink)[c.target] with busy := true, link := c.targetLink } := Vector.getElem_set_self _
  rw [hset, Context.leave_getElem]
  split <;> rfl

/-- Of the other slots the one that was active is not busy, and its link is the one given, if any. -/
theorem Context.switched_other (x : Context) (c : Commit) {j : Fin 8} (h : j ≠ c.target) : (x.switched c).slots[j] =
    if x.active = some j then { x.slots[j] with busy := false, link := c.leftLink.getD x.slots[j].link }
    else x.slots[j] := by
  rw [← Context.leave_getElem]
  have hval : c.target.val ≠ j.val := fun e => h (Fin.ext e.symm)
  exact Vector.getElem_set_ne c.target.isLt j.isLt hval

/-! ### The whole commit (R135) -/

/-- A close with reason DIE_END ends no halt (R132). -/
theorem State.closePiece_dieEnd_cc (s : State) (e : Nat) : (s.closePiece .dieEnd e).cc = s.cc := by
  unfold State.closePiece
  split
  · rfl
  · exact State.appendReport_cc _ _

/-- The state of a commit in which the open piece has closed (R121). -/
def State.dieEnded (s : State) : State := s.closePiece .dieEnd s.pt.settled

theorem State.commit_eq (s : State) (c : Commit) : s.commit c = {
    inReset := s.inReset, lt := s.lt.zeroed, hl := s.hl
    sa := s.sa.committed (s.dieSlot c.target).record.tDef
    ge := { compiled := none, handed := [] }, pk := s.pk.committed, pt := s.dieEnded.pt.committed
    cc := { s.cc.switched c with engine := .switching, compileBy := some (s.lt.time + 2000) }
    rq := s.dieEnded.rq, au := { s.dieEnded.au with matchAt := none }, lp := { s.lp with decim := 0 }
    pending := s.pending } := by
  have hframe : PieceFrame s s.dieEnded := s.closePiece_frame _ _
  have hpk : s.dieEnded.pk = s.pk := s.closePiece_pk _ _
  have hcc : s.dieEnded.cc = s.cc := s.closePiece_dieEnd_cc _
  have hclose : s.closePiece .dieEnd s.pt.settled = s.dieEnded := rfl
  generalize s.dieEnded = u at hframe hpk hcc hclose ⊢
  unfold State.commit
  simp only [State.dieSlot, ← hframe.inReset, ← hframe.lt, ← hframe.hl, ← hframe.sa, ← hframe.lp, ← hframe.pending,
    ← hpk, ← hcc, hclose, State.commitContext_eq]
  rfl

end Sys2Proof.Machine
end

section
/-! The bin pool (R115, R117, R119, R120, R123, R156): free records, the records of the open piece and those of the
queued reports through each operation of the Piece Tracker and of the Report Queue, and that every step keeps their total. -/

namespace Sys2Proof.Machine

/-! ### The books of the pool -/

/-- The bin pool with `free` free records, `held` records beside the queue, and the queued reports (R123, R156). -/
structure PoolLaw (free held : Nat) (reports : List Report) : Prop where
  total : free + held + (reports.map fun r => r.bins.length).sum = 1024
  queue : reports.length ≤ 6
  bins : ∀ r ∈ reports, 1 ≤ r.bins.length ∧ r.bins.length ≤ 256
  held : held ≤ 256

theorem PoolLaw.uncons {free held : Nat} {r : Report} {rest : List Report} (h : PoolLaw free held (r :: rest)) :
    1 ≤ r.bins.length ∧ r.bins.length ≤ 256 ∧ rest.length ≤ 5 ∧ PoolLaw (free + r.bins.length) held rest := by
  obtain ⟨htotal, hqueue, hbins, hheld⟩ := h
  obtain ⟨⟨hpos, hle⟩, hrest⟩ := List.forall_mem_cons.1 hbins
  simp only [List.map_cons, List.sum_cons] at htotal
  simp only [List.length_cons] at hqueue
  exact ⟨hpos, hle, by omega, by omega, by omega, hrest, hheld⟩

/-- Records held beside the queue return to the pool. -/
theorem PoolLaw.giveBack {free held : Nat} {reports : List Report} (h : PoolLaw free held reports) {kept : Nat}
    (hle : kept ≤ held) : PoolLaw (free + (held - kept)) kept reports := by
  have htotal := h.total
  exact ⟨by omega, h.queue, h.bins, hle.trans h.held⟩

/-- A free record is taken. -/
theorem PoolLaw.take {free held : Nat} {reports : List Report} (h : PoolLaw free held reports) (hfree : free ≠ 0)
    (hroom : held < 256) : PoolLaw (free - 1) (held + 1) reports := by
  have htotal := h.total
  exact ⟨by omega, h.queue, h.bins, hroom⟩

/-- The records of a report go with it to the queue. -/
theorem PoolLaw.enqueue {free : Nat} {r : Report} {reports : List Report} (h : PoolLaw free r.bins.length reports)
    (hqueue : reports.length < 6) (hpos : 1 ≤ r.bins.length) : PoolLaw free 0 (reports ++ [r]) := by
  have htotal := h.total
  refine ⟨?_, ?_, ?_, by omega⟩
  · simp only [List.map_append, List.sum_append, List.map_singleton, List.sum_singleton]
    omega
  · simpa using hqueue
  · intro q hq
    rcases List.mem_append.1 hq with hq | hq
    · exact h.bins q hq
    · obtain rfl := List.mem_singleton.1 hq
      exact ⟨hpos, h.held⟩

/-- With no records beside an empty pool a report is queued. -/
theorem PoolLaw.reports_ne_nil {reports : List Report} (h : PoolLaw 0 0 reports) : reports ≠ [] := by
  rintro rfl
  simpa using h.total

/-! ### Drop and append (R157, R158) -/

theorem Rule.dropped_pool {s : State} {held : Nat} (h : PoolLaw s.pt.free held s.rq.reports) :
    PoolLaw (Rule.dropped s).pt.free held (Rule.dropped s).rq.reports := by
  unfold Rule.dropped
  split
  · exact h
  · rename_i r rest hreports
    rw [hreports] at h
    obtain ⟨-, -, -, hrest⟩ := h.uncons
    exact hrest

theorem Rule.dropped_length {s : State} {held : Nat} (h : PoolLaw s.pt.free held s.rq.reports) :
    (Rule.dropped s).rq.reports.length < 6 := by
  unfold Rule.dropped
  split
  · rename_i hreports
    simp [hreports]
  · rename_i r rest hreports
    rw [hreports] at h
    obtain ⟨-, -, hlen, -⟩ := h.uncons
    exact Nat.lt_succ_of_le hlen

/-- A drop behind an empty pool frees a record. -/
theorem Rule.dropped_free {s : State} (h : PoolLaw 0 0 s.rq.reports) : (Rule.dropped s).pt.free ≠ 0 := by
  unfold Rule.dropped
  split
  · rename_i hreports
    exact absurd hreports h.reports_ne_nil
  · rename_i r rest hreports
    rw [hreports] at h
    obtain ⟨hpos, -, -, -⟩ := h.uncons
    exact (Nat.lt_of_lt_of_le hpos (Nat.le_add_left _ _)).ne'

/-- A report joins the queue with its records (R157). -/
theorem Rule.appended_pool {s : State} {r : Report} (h : PoolLaw s.pt.free r.bins.length s.rq.reports)
    (hpos : 1 ≤ r.bins.length) : PoolLaw (Rule.appended s r).pt.free 0 (Rule.appended s r).rq.reports := by
  unfold Rule.appended
  dsimp only
  split
  · rename_i hroom
    exact h.enqueue hroom hpos
  · exact (Rule.dropped_pool h).enqueue (Rule.dropped_length h) hpos

/-! ### A piece closes, a piece opens (R116, R117) -/

/-- A report holds at least one bin, and no more than the piece did (R117). -/
theorem Rule.report_bins_bounds (s : State) (p : Piece) (reason : CloseReason) (e : Nat) :
    1 ≤ (Rule.report s p reason e).bins.length ∧ (Rule.report s p reason e).bins.length ≤ p.closed.length + 1 := by
  rw [Rule.report_bins_length, State.closingBins]
  split
  · rename_i hempty
    exact ⟨List.length_pos_of_ne_nil hempty.2, Nat.le_succ _⟩
  · simp

section
variable {s : State} {p : Piece} (h : PoolLaw s.pt.free (p.closed.length + 1) s.rq.reports)
include h

theorem Rule.pieceClosed_pool (reason : CloseReason) (e : Nat) :
    PoolLaw (Rule.pieceClosed s p reason e).pt.free 0 (Rule.pieceClosed s p reason e).rq.reports := by
  obtain ⟨hpos, hle⟩ := Rule.report_bins_bounds s p reason e
  exact Rule.appended_pool (h.giveBack hle) hpos

theorem State.pieceEnded_pool (reason : CloseReason) (e : Nat) :
    PoolLaw (s.pieceEnded p reason e).pt.free 0 (s.pieceEnded p reason e).rq.reports := by
  unfold State.pieceEnded
  rw [Rule.haltEnded_pt, Rule.haltEnded_rq]
  exact Rule.pieceClosed_pool h reason e

end

/-- The state in which a piece opens has a free record (R116). -/
theorem State.withRecord_pool {s : State} (h : PoolLaw s.pt.free 0 s.rq.reports) :
    s.withRecord.pt.free ≠ 0 ∧ PoolLaw s.withRecord.pt.free 0 s.withRecord.rq.reports := by
  unfold State.withRecord
  split
  · rename_i hempty
    exact ⟨Rule.dropped_free (hempty ▸ h), Rule.dropped_pool h⟩
  · rename_i hfree
    exact ⟨hfree, h⟩

/-- The piece that opens takes its record. -/
theorem State.withRecord_taken {s : State} (h : PoolLaw s.pt.free 0 s.rq.reports) :
    PoolLaw (s.withRecord.pt.free - 1) 1 s.withRecord.rq.reports := by
  obtain ⟨hfree, hpool⟩ := State.withRecord_pool h
  exact hpool.take hfree (by omega)

/-! ### The work along the profile -/

/-- The pool while a piece is open in READY, RUNNING or HALTING. -/
structure State.PoolOpen (s : State) : Prop where
  pool : PoolLaw s.pt.free s.pt.held s.rq.reports
  piece : s.pt.piece.isSome = true
  engine : s.cc.engine.tracks = true

theorem State.poolSound_iff (s : State) : s.PoolSound ↔ PoolLaw s.pt.free s.pt.held s.rq.reports ∧
    (s.pt.piece.isSome = true ↔ s.cc.engine.tracks = true) :=
  ⟨fun ⟨htotal, hqueue, hbins, hheld, hopen⟩ => ⟨⟨htotal, hqueue, hbins, hheld⟩, hopen⟩,
    fun ⟨⟨htotal, hqueue, hbins, hheld⟩, hopen⟩ => ⟨htotal, hqueue, hbins, hheld, hopen⟩⟩

theorem State.PoolOpen.sound {s : State} (h : s.PoolOpen) : s.PoolSound :=
  s.poolSound_iff.2 ⟨h.pool, iff_of_true h.piece h.engine⟩

theorem State.PoolSound.poolOpen {s : State} (h : s.PoolSound) (hpiece : s.pt.piece.isSome = true) : s.PoolOpen := by
  obtain ⟨hpool, hopen⟩ := s.poolSound_iff.1 h
  exact ⟨hpool, hpiece, hopen.1 hpiece⟩

/-- What a piece that is open holds. -/
theorem PieceTracker.held_some {t : PieceTracker} {p : Piece} (h : t.piece = some p) :
    t.held = p.closed.length + 1 := by
  rw [PieceTracker.held, h]
  rfl

theorem PieceTracker.held_none {t : PieceTracker} (h : t.piece = none) : t.held = 0 := by
  rw [PieceTracker.held, h]

/-- The end of a halt leaves the engine state one with an open piece (R132). -/
theorem EngineState.tracks_haltEnded (e : EngineState) :
    (if e = .halting then .ready else e : EngineState).tracks = e.tracks := by cases e <;> rfl

/-- What the pool is read from stays: the free records, the records the piece holds, the reports, whether a piece is open,
and whether the engine state has one. -/
structure PoolSame (s t : State) : Prop where
  free : t.pt.free = s.pt.free
  held : t.pt.held = s.pt.held
  isSome : t.pt.piece.isSome = s.pt.piece.isSome
  reports : t.rq.reports = s.rq.reports
  tracks : t.cc.engine.tracks = s.cc.engine.tracks

theorem PoolSame.refl (s : State) : PoolSame s s := ⟨rfl, rfl, rfl, rfl, rfl⟩

theorem PoolSame.trans {s t u : State} (h : PoolSame s t) (k : PoolSame t u) : PoolSame s u :=
  ⟨k.free.trans h.free, k.held.trans h.held, k.isSome.trans h.isSome, k.reports.trans h.reports,
    k.tracks.trans h.tracks⟩

theorem PoolSame.of_eq {s t : State} (hpt : t.pt = s.pt) (hrq : t.rq.reports = s.rq.reports)
    (hengine : t.cc.engine = s.cc.engine) : PoolSame s t :=
  ⟨by rw [hpt], by rw [hpt], by rw [hpt], hrq, by rw [hengine]⟩

theorem PoolSame.poolOpen {s t : State} (k : PoolSame s t) (h : s.PoolOpen) : t.PoolOpen := by
  obtain ⟨hpool, hpiece, hengine⟩ := h
  exact ⟨by rw [k.free, k.held, k.reports]; exact hpool, k.isSome.trans hpiece, k.tracks.trans hengine⟩

theorem PoolSame.poolSound {s t : State} (k : PoolSame s t) (h : s.PoolSound) : t.PoolSound := by
  rw [State.poolSound_iff] at h ⊢
  rwa [k.free, k.held, k.reports, k.isSome, k.tracks]

theorem State.setPt_poolSame (s : State) {x : PieceTracker} (hfree : x.free = s.pt.free)
    (hpiece : x.piece = s.pt.piece) : PoolSame s (s.setPt x) :=
  ⟨hfree, by simp only [PieceTracker.held, State.setPt_pt, hpiece], by rw [State.setPt_pt, hpiece], rfl, rfl⟩

/-- A change of the open piece that keeps its closed bins. -/
theorem State.mapPiece_poolSame (s : State) {f : Piece → Piece} (hf : ∀ p, (f p).closed = p.closed) :
    PoolSame s (s.mapPiece f) := by
  refine ⟨rfl, ?_, Option.isSome_map, rfl, rfl⟩
  simp only [State.mapPiece, PieceTracker.held, State.setPt_pt]
  cases s.pt.piece with
  | none => rfl
  | some p => exact congrArg (fun l : List Bin => l.length + 1) (hf p)

theorem Rule.haltEnded_poolSame (s : State) : PoolSame s (Rule.haltEnded s) :=
  ⟨by rw [Rule.haltEnded_pt], by rw [Rule.haltEnded_pt], by rw [Rule.haltEnded_pt], by rw [Rule.haltEnded_rq],
    by rw [Rule.haltEnded_engine, EngineState.tracks_haltEnded]⟩

theorem State.applyZone_poolSame (s : State) (y : Nat) (m : Mark) : PoolSame s (s.applyZone y m) := by
  unfold State.applyZone
  refine PoolSame.trans (.of_eq ?_ ?_ ?_) (State.mapPiece_poolSame _ fun p => ?_)
  · rfl
  · rfl
  · rfl
  · dsimp only
    split <;> rfl

/-- A fold of bins leaves no more bins (R119). -/
theorem Piece.lateAt_binCount_le (p : Piece) (x : Nat) : (p.lateAt x).binCount ≤ p.binCount := by
  unfold Piece.lateAt Piece.foldAt
  dsimp only
  split
  · exact le_rfl
  · have hkeep : ((p.flag .lateMark).bins.filter fun b => decide (b.start < x)).length ≤ p.closed.length + 1 := by
      refine (List.length_filter_le _ _).trans_eq ?_
      simp [Piece.bins, Piece.flag]
    simp only [Piece.binCount, List.length_dropLast]
    omega

/-- A piece of 256 bins closes at a boundary, and another opens there (R120). -/
theorem State.applyBoundary_reopens {s : State} {p : Piece} (hp : s.pt.piece = some p) (e : Nat)
    (hlen : ¬ p.closed.length < 255) : s.applyBoundary e = (s.closePiece .split e).openPiece e true := by
  simp only [State.applyBoundary, hp, Piece.binCount]
  exact if_neg (by omega)

/-- A piece opens where none is open (R116). -/
theorem State.openPiece_poolOpen {s : State} (h : PoolLaw s.pt.free 0 s.rq.reports)
    (htracks : s.cc.engine.tracks = true) (p : Nat) (continued : Bool) : (s.openPiece p continued).PoolOpen := by
  refine ⟨?_, rfl, ?_⟩
  · rw [State.openPiece_eq]
    exact State.withRecord_taken h
  · rwa [State.openPiece_cc]

section
variable {s : State} (h : s.PoolOpen)
include h

theorem State.PoolOpen.bins {p : Piece} (hp : s.pt.piece = some p) :
    PoolLaw s.pt.free (p.closed.length + 1) s.rq.reports := by
  rw [← PieceTracker.held_some hp]
  exact h.pool

/-- A piece closes and another opens behind it (R118, R120). -/
theorem State.reopen_poolOpen {reason : CloseReason} (hreason : reason ≠ .dieEnd) (e x : Nat) (continued : Bool) :
    ((s.closePiece reason e).openPiece x continued).PoolOpen := by
  obtain ⟨p, hp⟩ := Option.isSome_iff_exists.1 h.piece
  have hclose : s.closePiece reason e = s.pieceEnded p reason e :=
    (State.closePiece_eq hp reason e).trans (if_neg hreason)
  rw [hclose]
  refine State.openPiece_poolOpen (State.pieceEnded_pool (h.bins hp) _ _) ?_ x continued
  rw [State.pieceEnded_engine, EngineState.tracks_haltEnded, h.engine]

theorem State.applyBoundary_poolOpen (e : Nat) : (s.applyBoundary e).PoolOpen := by
  obtain ⟨p, hp⟩ := Option.isSome_iff_exists.1 h.piece
  have hbins := h.bins hp
  have hhalt := Rule.haltEnded_poolSame s
  have htracks := hhalt.tracks.trans h.engine
  by_cases hlen : p.closed.length < 255
  · by_cases hfree : s.pt.free = 0
    · rw [State.applyBoundary_coalesces hp e hlen hfree]
      split <;> exact ⟨by rw [State.setPt_rq]; exact hhalt.reports ▸ hbins, rfl, htracks⟩
    · rw [State.applyBoundary_opens hp e hlen hfree]
      refine ⟨?_, rfl, htracks⟩
      have htaken := hbins.take hfree (by omega)
      rw [State.setPt_rq, hhalt.reports]
      have hlength : (p.closed ++ [Rule.done s p]).length = p.closed.length + 1 := by simp
      rwa [← hlength] at htaken
  · rw [State.applyBoundary_reopens hp e hlen]
    exact State.reopen_poolOpen h CloseReason.noConfusion e e true

theorem State.boundaryAt_poolOpen (y : Nat) : (s.boundaryAt y).PoolOpen := by
  unfold State.boundaryAt
  split
  · exact h
  · split
    · exact State.applyBoundary_poolOpen h y
    · exact h

theorem State.applyCut_poolOpen (x : Nat) (est : Bool) : (s.applyCut x est).PoolOpen := by
  have hflag (t : State) : PoolSame t (t.mapPiece (·.flag .estimatedMark)) := t.mapPiece_poolSame fun _ => rfl
  have hreopen {t : State} (ht : t.PoolOpen) : ((t.closePiece .cut x).openPiece x false).PoolOpen :=
    State.reopen_poolOpen ht CloseReason.noConfusion x x false
  cases est with
  | false => exact hreopen h
  | true => exact (hflag _).poolOpen (hreopen ((hflag s).poolOpen h))

theorem State.applyAt_poolOpen (y : Nat) : (s.applyAt y).PoolOpen := by
  unfold State.applyAt
  dsimp only
  refine List.foldlRecOn _ _ ?_ fun t ht m _ => (t.applyZone_poolSame y m).poolOpen ht
  refine State.boundaryAt_poolOpen ?_ y
  refine List.foldlRecOn _ _ ?_ fun t ht m _ => State.applyCut_poolOpen ht y m.est
  exact PoolSame.poolOpen (s := s) ⟨rfl, rfl, rfl, rfl, rfl⟩ h

theorem State.walk_poolOpen (n y limit : Nat) : (State.walk n s y limit).PoolOpen := by
  induction n generalizing s y with
  | zero => exact h
  | succ n ih =>
    unfold State.walk
    split
    · exact h
    · exact ih (State.applyAt_poolOpen h _) _

/-- A late cut: the folded bins' records return before the piece closes (R119). -/
theorem State.lateCut_poolOpen (x : Nat) (est : Bool) : (s.lateCut x est).PoolOpen := by
  obtain ⟨p, hp⟩ := Option.isSome_iff_exists.1 h.piece
  rw [State.lateCut_eq hp]
  refine State.walk_poolOpen (State.applyCut_poolOpen ?_ x est) _ _ _
  exact ⟨(h.bins hp).giveBack (p.lateAt_binCount_le x), rfl, h.engine⟩

end

/-! ### What keeps the law -/

/-- What holds in `t` of the law of the pool when it holds in `s`. -/
structure PoolKept (s t : State) : Prop where
  sound : s.PoolSound → t.PoolSound

theorem PoolSame.kept {s t : State} (h : PoolSame s t) : PoolKept s t := ⟨h.poolSound⟩

theorem PoolKept.refl (s : State) : PoolKept s s := ⟨id⟩

theorem PoolKept.trans {s t u : State} (h : PoolKept s t) (k : PoolKept t u) : PoolKept s u := ⟨k.sound ∘ h.sound⟩

/-- What comes behind a change that leaves the pool. -/
theorem PoolKept.after {s u t : State} (k : PoolKept u t) (h : PoolSame s u) : PoolKept s t := h.kept.trans k

/-- Work along the profile begins only with an open piece. -/
theorem PoolKept.of_open {s t : State} (hpiece : s.pt.piece.isSome = true) (h : s.PoolOpen → t.PoolOpen) :
    PoolKept s t := ⟨fun hs => (h (hs.poolOpen hpiece)).sound⟩

theorem Beside.poolSame {s t : State} (h : Beside s t) : PoolSame s t := .of_eq h.pt (by rw [h.rq]) (by rw [h.cc])

theorem State.offerMatch_poolSame (s : State) (a b : Nat) : PoolSame s (s.offerMatch a b) := by
  unfold State.offerMatch
  (repeat' split) <;> exact ⟨rfl, rfl, rfl, rfl, rfl⟩

theorem State.countBurst_poolSame (s : State) (r : SecResult) : PoolSame s (s.countBurst r) := by
  unfold State.countBurst
  dsimp only
  (repeat' split) <;> exact ⟨rfl, rfl, rfl, rfl, rfl⟩

theorem State.advanceTo_poolKept (s : State) (c : Nat) : PoolKept s (s.advanceTo c) := by
  unfold State.advanceTo
  split
  · rename_i hmoves
    refine .of_open hmoves.1 fun hs => (State.offerMatch_poolSame _ _ _).poolOpen ?_
    refine PoolSame.poolOpen (State.setPt_poolSame _ ?_ ?_) (State.walk_poolOpen hs (c - s.pt.settled) s.pt.settled c)
    · rfl
    · rfl
  · exact .refl s

theorem State.advance_poolKept (s : State) : PoolKept s s.advance := s.advanceTo_poolKept _

/-- A section result counted into the open piece, the burst counter and the trace (R106 but for its two advances). -/
def State.sectionCounted (s : State) (r : SecResult) : State :=
  let t := s.mapPiece fun p => { p with cur := countSection r p.cur }
  let u := ((if t.lacksHead r then t.mapPiece (·.flag .headGap) else t).countBurst r).offerTrace r
  u.setPt { u.pt with awaited := u.pt.awaited.drop 1 }

/-- A result is counted between the advance to its section and the advance to the new target (R106). -/
theorem State.applyResult_eq (s : State) (r : SecResult) :
    s.applyResult r = ((s.advanceTo r.coord).sectionCounted r).advance := rfl

theorem State.sectionCounted_poolSame (s : State) (r : SecResult) : PoolSame s (s.sectionCounted r) := by
  unfold State.sectionCounted
  refine PoolSame.trans ?_ (State.setPt_poolSame _ rfl rfl)
  refine PoolSame.trans ?_ (State.offerTrace_beside _ r).poolSame
  refine PoolSame.trans ?_ (State.countBurst_poolSame _ r)
  refine PoolSame.trans (s.mapPiece_poolSame (f := fun p => { p with cur := countSection r p.cur }) fun _ => rfl) ?_
  split
  · exact State.mapPiece_poolSame _ (f := (·.flag .headGap)) fun _ => rfl
  · exact .refl _

theorem State.applyResult_poolKept (s : State) (r : SecResult) : PoolKept s (s.applyResult r) := by
  rw [State.applyResult_eq]
  exact ((s.advanceTo_poolKept r.coord).trans (State.sectionCounted_poolSame _ r).kept).trans (State.advance_poolKept _)

theorem State.applySection_poolKept (s : State) : PoolKept s s.applySection := by
  unfold State.applySection
  split
  · exact .refl s
  · exact (State.applyResult_poolKept _ _).after (s.setPt_poolSame rfl rfl)

/-- The first piece opens at the completion of a compilation: in SWITCHING none is open (R116, R137). -/
theorem State.compilationDone_poolKept (s : State) : PoolKept s s.compilationDone := by
  by_cases he : s.cc.engine = .switching
  · cases hi : s.cc.active with
    | none =>
      have hidle : s.compilationDone = s := by simp only [State.compilationDone, he, hi]
      rw [hidle]
      exact .refl s
    | some i =>
      refine ⟨fun hs => ?_⟩
      obtain ⟨hpool, hopen⟩ := s.poolSound_iff.1 hs
      have hnone : s.pt.piece = none := by
        rw [he] at hopen
        exact Option.not_isSome_iff_eq_none.1 fun h => Bool.false_ne_true (hopen.1 h)
      rw [PieceTracker.held_none hnone] at hpool
      rw [State.compilationDone_eq he hi]
      have hopened : ((s.compiled i).openPiece 0 false).PoolOpen :=
        State.openPiece_poolOpen (s := s.compiled i) hpool rfl 0 false
      exact (State.raise_beside _ _).poolSame.poolSound ((State.advance_poolKept _).sound hopened.sound)
  · rw [State.compilationDone_idle he]
    exact .refl s

/-! Press notices. -/

theorem State.deliverMark_poolKept (s : State) (m : Mark) : PoolKept s (s.deliverMark m).1 := by
  unfold State.deliverMark State.handLate
  split
  · split
    · split
      · rename_i p hp
        split
        · exact .of_open (by rw [hp]; rfl) fun hs => State.lateCut_poolOpen hs _ _
        · exact .refl s
      · exact .refl s
    · have hflag : PoolSame s s.flagLate :=
        (s.mapPiece_poolSame (f := (·.flag .lateMark)) fun _ => rfl).trans (State.raise_beside _ _).poolSame
      exact (hflag.trans (State.applyZone_poolSame _ _ _)).kept
  · split
    · exact .refl s
    · split <;> exact PoolSame.kept ⟨rfl, rfl, rfl, rfl, rfl⟩

theorem State.answerMark_poolKept (s : State) (look : Nat × Bool) (formed : Nat) (m : Mark) :
    PoolKept s (s.answerMark look formed m).st := s.deliverMark_poolKept m

theorem State.setPk_poolSame (s : State) (x : PressTracker) : PoolSame s (s.setPk x) := ⟨rfl, rfl, rfl, rfl, rfl⟩

theorem State.ramStop_poolKept (s : State) (a n : Nat) : PoolKept s (s.ramStop a n).st := by
  unfold State.ramStop
  dsimp only
  split
  case h_1 => exact .refl s
  case h_2 => split <;> exact PoolSame.kept ⟨rfl, rfl, rfl, rfl, rfl⟩
  all_goals
    split
    · exact .refl s
    · exact (State.answerMark_poolKept _ _ _ _).after (s.setPk_poolSame _)

theorem State.ramStart_poolKept (s : State) (a n b : Nat) : PoolKept s (s.ramStart a n b).st := by
  unfold State.ramStart
  dsimp only
  split
  case h_1 => exact .refl s
  case h_2 => split <;> exact PoolSame.kept ⟨rfl, rfl, rfl, rfl, rfl⟩
  all_goals
    split
    · exact .refl s
    · split
      · split
        · exact (s.setPk_poolSame _).kept
        · exact (State.answerMark_poolKept _ _ _ _).after (s.setPk_poolSame _)
      · exact (s.setPk_poolSame _).kept

theorem State.cutNotice_poolKept (s : State) (a n : Nat) : PoolKept s (s.cutNotice a n).st := by
  unfold State.cutNotice
  dsimp only
  split
  case h_1 => exact .refl s
  case h_2 => exact .refl s
  all_goals exact s.answerMark_poolKept _ _ _

/-! Commits. -/

theorem Rule.pieceClosed_pt (s : State) (p : Piece) (reason : CloseReason) (e : Nat) :
    (Rule.pieceClosed s p reason e).pt =
      { s.pt with piece := none, free := (Rule.pieceClosed s p reason e).pt.free } := Rule.appended_pt _ _

/-- No piece is open behind the close, and the report has its records. -/
theorem State.closePiece_pool {s : State} (h : PoolLaw s.pt.free s.pt.held s.rq.reports) (e : Nat) :
    (s.closePiece .dieEnd e).pt.piece = none ∧
      PoolLaw (s.closePiece .dieEnd e).pt.free 0 (s.closePiece .dieEnd e).rq.reports := by
  cases hp : s.pt.piece with
  | none =>
    rw [PieceTracker.held_none hp] at h
    simp only [State.closePiece, hp]
    exact ⟨trivial, h⟩
  | some p =>
    rw [PieceTracker.held_some hp] at h
    rw [State.closePiece_eq hp, if_pos rfl]
    refine ⟨?_, Rule.pieceClosed_pool h _ _⟩
    rw [Rule.pieceClosed_pt]

theorem State.commit_poolKept (s : State) (c : Commit) : PoolKept s (s.commit c) := by
  refine ⟨fun hs => ?_⟩
  obtain ⟨hpool, -⟩ := s.poolSound_iff.1 hs
  obtain ⟨hnone, hleft⟩ := State.closePiece_pool hpool s.pt.settled
  have hpiece : (s.commit c).pt.piece = none := by
    rw [State.commit_eq]
    exact hnone
  rw [State.poolSound_iff, PieceTracker.held_none hpiece, hpiece, State.commit_eq]
  exact ⟨hleft, iff_of_false Bool.false_ne_true Bool.false_ne_true⟩

theorem PoolKept.of_switch {s t : State} (h : t = s.raise .switchFailed ∨ ∃ c, t = s.commit c) : PoolKept s t := by
  rcases h with rfl | ⟨c, rfl⟩
  · exact (s.raise_beside _).poolSame.kept
  · exact s.commit_poolKept c

/-- A reset gives every record back to the pool (R103, R155). -/
theorem PoolKept.of_reset {s t : State} (hpt : t.pt = State.reset.pt) (hrq : t.rq = State.reset.rq)
    (hengine : t.cc.engine = .idle) : PoolKept s t := by
  refine ⟨fun _ => t.poolSound_iff.2 ?_⟩
  rw [hpt, hrq, hengine]
  exact ⟨⟨rfl, by decide, nofun, by decide⟩, iff_of_false Bool.false_ne_true Bool.false_ne_true⟩

/-! ### Every step -/

theorem PoolKept.sectionLaw : SectionLaw PoolKept where
  trans := PoolKept.trans
  beside h := h.poolSame.kept
  passing s presented awaited results := (s.setPt_poolSame
    (x := { s.pt with presented := presented, awaited := awaited, results := results }) rfl rfl).kept
  advance := State.advance_poolKept

theorem State.setRq_poolSame (s : State) {x : ReportQueue} (h : x.reports = s.rq.reports) : PoolSame s (s.setRq x) :=
  ⟨rfl, rfl, rfl, h, rfl⟩

/-- A released report's records return to the pool (R164). -/
theorem State.release_poolKept (s : State) (piece : Nat) : PoolKept s (s.release piece).st := by
  unfold State.release
  split
  · exact .refl s
  · rename_i r rest hreports
    split
    · exact .refl s
    · refine ⟨fun hs => ?_⟩
      obtain ⟨hpool, hopen⟩ := s.poolSound_iff.1 hs
      rw [hreports] at hpool
      obtain ⟨-, -, -, hrest⟩ := hpool.uncons
      exact (State.poolSound_iff _).2 ⟨hrest, hopen⟩

/-- START and HALT leave an engine state one with an open piece or one without (R130, R131). -/
theorem State.startEngine_poolKept (s : State) : PoolKept s s.startEngine.st := by
  unfold State.startEngine
  split
  case h_1 => exact .refl s
  case h_2 => exact .refl s
  case h_5 => exact .refl s
  all_goals
    rename_i he
    exact PoolSame.kept ⟨rfl, rfl, rfl, rfl, by rw [he]; rfl⟩

theorem State.haltEngine_poolKept (s : State) : PoolKept s s.haltEngine.st := by
  unfold State.haltEngine
  split
  case h_3 he => exact PoolSame.kept ⟨rfl, rfl, rfl, rfl, by rw [he]; rfl⟩
  all_goals exact .refl s

/-- The commands of the die slots and of the directory. -/
def reachesRecipes : Command → Bool
  | .openSlot | .writeParams | .writeProbesFirst | .writeProbesNext | .writeGaugesFirst | .writeGaugesNext | .sealSlot
  | .eraseSlot | .querySlot | .mapDie | .unmapDie => true
  | _ => false

theorem State.onSlot_engine (s : State) (p : List Byte) {f : Fin 8 → Answer}
    (h : ∀ i, (f i).st.cc.engine = s.cc.engine) : (s.onSlot p f).st.cc.engine = s.cc.engine := by
  unfold State.onSlot
  split
  · exact h _
  · rfl

theorem State.writeProbes_engine (s : State) (i : Fin 8) (start : Nat) (r : List (List Byte)) :
    (s.writeProbes i start r).st.cc.engine = s.cc.engine := by
  unfold State.writeProbes
  dsimp only
  (repeat' split) <;> rfl

theorem State.writeGauges_engine (s : State) (i : Fin 8) (start : Nat) (r : List (List Byte)) :
    (s.writeGauges i start r).st.cc.engine = s.cc.engine := by
  unfold State.writeGauges
  dsimp only
  (repeat' split) <;> rfl

/-- The recipes leave the engine state. -/
theorem State.runCommand_engine (s : State) {c : Command} (hc : reachesRecipes c = true) (a : Nat) (p : List Byte) :
    (s.runCommand c a p).st.cc.engine = s.cc.engine := by
  cases c
  case openSlot =>
    refine s.onSlot_engine p fun i => ?_
    simp only [State.openSlot]
    (repeat' split) <;> rfl
  case writeParams =>
    refine s.onSlot_engine p fun i => ?_
    simp only [State.writeParams]
    (repeat' split) <;> rfl
  case writeProbesFirst => exact s.onSlot_engine p fun i => s.writeProbes_engine i _ _
  case writeProbesNext => exact s.onSlot_engine p fun i => s.writeProbes_engine i _ _
  case writeGaugesFirst => exact s.onSlot_engine p fun i => s.writeGauges_engine i _ _
  case writeGaugesNext => exact s.onSlot_engine p fun i => s.writeGauges_engine i _ _
  case sealSlot =>
    refine s.onSlot_engine p fun i => ?_
    simp only [State.sealSlot]
    (repeat' split) <;> rfl
  case eraseSlot =>
    refine s.onSlot_engine p fun i => ?_
    simp only [State.eraseSlot]
    (repeat' split) <;> rfl
  case querySlot => exact s.onSlot_engine p fun i => rfl
  case mapDie =>
    simp only [State.runCommand, State.mapDie]
    (repeat' split) <;> rfl
  case unmapDie =>
    simp only [State.runCommand, State.unmapDie]
    (repeat' split) <;> rfl
  all_goals cases hc

theorem reachesContext_of_recipes {c : Command} (hc : reachesRecipes c = true) : reachesContext c = true := by
  revert hc
  cases c <;> decide

theorem State.recipes_poolSame (s : State) {c : Command} (hc : reachesRecipes c = true) (a : Nat) (p : List Byte) :
    PoolSame s (s.runCommand c a p).st := by
  obtain ⟨x, hx⟩ := s.runCommand_context (reachesContext_of_recipes hc) a p
  refine .of_eq ?_ ?_ (s.runCommand_engine hc a p) <;> rw [hx] <;> rfl

/-- Fetches and the fetch pointer leave the reports (R160 to R163). -/
theorem State.fetchFirst_poolSame (s : State) : PoolSame s s.fetchFirst.st := by
  unfold State.fetchFirst
  split
  · exact .refl s
  · exact s.setRq_poolSame rfl

theorem State.fetchNext_poolSame (s : State) : PoolSame s s.fetchNext.st := by
  unfold State.fetchNext
  split
  · exact .refl s
  · split <;> exact s.setRq_poolSame rfl

theorem State.setFetchPointer_poolSame (s : State) (index : Nat) : PoolSame s (s.setFetchPointer index).st := by
  unfold State.setFetchPointer
  split
  · exact .refl s
  · split
    · exact .refl s
    · exact s.setRq_poolSame rfl

theorem State.ackAlerts_poolSame (s : State) (mask : FlagSet) : PoolSame s (s.ackAlerts mask).st := by
  simp only [State.ackAlerts, State.reloadBurst, State.taken]
  split <;> exact ⟨rfl, rfl, rfl, rfl, rfl⟩

theorem State.runCommand_poolKept (s : State) (c : Command) (a : Nat) (p : List Byte) :
    PoolKept s (s.runCommand c a p).st := by
  by_cases hc : reachesRecipes c = true
  · exact (s.recipes_poolSame hc a p).kept
  · cases c
    case start => exact s.startEngine_poolKept
    case halt => exact s.haltEngine_poolKept
    case setGeometry => exact (s.setGeometry_beside p).poolSame.kept
    case setHeads => exact PoolKept.sectionLaw.setHeads s _ _ _ _
    case setHeadCal => exact (s.setHeadCal_beside _ _ _ _).poolSame.kept
    case dieChange => exact .of_switch (s.dieChange_st _)
    case revert => exact .of_switch s.revertSwitch_st
    case noteRamStop => exact s.ramStop_poolKept _ _
    case noteRamStart => exact s.ramStart_poolKept _ _ _
    case noteCut => exact s.cutNotice_poolKept _ _
    case fetchFirst => exact s.fetchFirst_poolSame.kept
    case fetchNext => exact s.fetchNext_poolSame.kept
    case setFetchPointer => exact (s.setFetchPointer_poolSame _).kept
    case release => exact s.release_poolKept _
    case ackAlerts => exact (s.ackAlerts_poolSame _).kept
    case setMatch => exact (s.setMatch_beside _ _).poolSame.kept
    case resetEngine => exact .of_reset rfl rfl rfl
    case identify => exact .refl s
    case sense => exact .refl s
    case getStatus => exact .refl s
    case setTrace => exact PoolSame.kept ⟨rfl, rfl, rfl, rfl, rfl⟩
    case setNotices => exact PoolSame.kept ⟨rfl, rfl, rfl, rfl, rfl⟩
    all_goals exact absurd rfl hc

theorem PoolKept.stepLaw : StepLaw PoolKept where
  toSectionLaw := PoolKept.sectionLaw
  applySection := State.applySection_poolKept
  compilationDone := State.compilationDone_poolKept
  runCommand := State.runCommand_poolKept
  reset _ := .of_reset rfl rfl rfl

/-- Settles O10: records go from the pool to the open piece, with its report to the queue, and back to the pool. -/
theorem poolLawKept : Obligations.PoolLawKept := fun _ _ hs hstep => (PoolKept.stepLaw.step hstep).sound hs

end Sys2Proof.Machine
end

section
/-! The worst class and deviation of a gauge in a bin (R113), and the statement on how a piece opens and closes (R110,
R116, R117). -/

namespace Sys2Proof.Machine

/-! ### A gauge of a bin (R113) -/

/-- A gauged section grades the gauge: what is neither OUT nor WARN behind it is IN. -/
theorem WorstClass.higher_grade (w : WorstClass) {c : GaugeClass} (h : c ≠ .notGauged) : w.higher c.grade =
    if w = .out ∨ c = .outLo ∨ c = .outHi then .out
    else if w = .warn ∨ c = .warnLo ∨ c = .warnHi then .warn else .inTol := by
  cases c
  case notGauged => exact absurd rfl h
  all_goals cases w <;> rfl

theorem worseDev_some (d : Option Int) (x : Int) : worseDev d (some x) =
    some (match d with | none => x | some y => if y.natAbs < x.natAbs then x else y) := by
  cases d with
  | none => rfl
  | some y => exact (apply_ite some _ _ _).symm

/-- Settles O39: by the class of the section's entry for the gauge. -/
theorem worstOfAGauge : Obligations.WorstOfAGauge := by
  intro entries g e he
  refine ⟨fun hnone => ?_, fun dev hgauged hdev => ?_⟩
  · simp only [countGauge, he, if_pos hnone]
  · have hcount : countGauge entries g =
        { g with worst := g.worst.higher e.cls.grade, dev := worseDev g.dev e.dev } := by
      simp only [countGauge, he, if_neg hgauged]
    rw [hcount]
    refine ⟨g.worst.higher_grade hgauged, ?_⟩
    rw [hdev]
    exact worseDev_some g.dev dev

/-! ### Pieces (R110, R116, R117) -/

/-- Settles O42: the state in which a piece opens has its free record and its front-crop zone; a piece closes with its
report. -/
theorem pieceOpened : Obligations.PieceOpened :=
  ⟨fun s p continued => s.openPiece_eq p continued, fun _ reason e _ hp => State.closePiece_eq hp reason e⟩

end Sys2Proof.Machine
end

section
/-! DIE_CHANGE and REVERT (R133 to R136, R141, R142): the head check, the checks in their order, and the commit with the
report of the piece that it ends. -/

namespace Sys2Proof.Machine

/-! ### The head check (R134) -/

theorem PressState.letsSwitch_iff (p : PressState) : p.letsSwitch = true ↔ p ≠ .pushing := by
  cases p <;> simp [PressState.letsSwitch]

/-- What the head check refuses in a probe: a DISABLED head, or an axis that its head's quadrant does not give. -/
theorem State.headCheck_eq_false (s : State) (r : ProbeRec) : s.headCheck r = false ↔
    (s.head r.head).status = .disabled ∨
      r.axis ≠ if decide (s.lt.geom.quad.get r.head = 0 ∨ s.lt.geom.quad.get r.head = 2) = decide (r.kind = .edge)
        then Axis.x else Axis.y := by
  rw [State.headCheck, Bool.and_eq_false_iff, probeAxisOk, axisGiven_eq, beq_eq_false_iff_ne, Head.enabled,
    bne_eq_false_iff_eq]

section
variable {s : State} {bad : ProbeRec → Prop} [DecidablePred bad] (hbad : ∀ r, s.headCheck r = false ↔ bad r)
include hbad

/-- The first probe that the head check refuses, with its refusal as a proposition. -/
theorem State.firstBad_headCheck (probes : List ProbeRec) :
    firstBad s.headCheck probes = probes.findIdx? fun r => decide (bad r) := by
  have htest : (fun r => !s.headCheck r) = fun r => decide (bad r) := by
    funext r
    rw [Bool.eq_iff_iff, Bool.not_eq_true', hbad, decide_eq_true_iff]
  rw [firstBad, htest]

theorem State.firstBad_headCheck_none {probes : List ProbeRec} (h : ∀ r ∈ probes, ¬ bad r) :
    firstBad s.headCheck probes = none := by
  rw [State.firstBad_headCheck hbad, List.findIdx?_eq_none_iff]
  exact fun r hr => decide_eq_false (h r hr)

end

/-! ### The commit (R117, R121, R135) -/

theorem State.dieEnded_eq (s : State) : s.dieEnded = match s.pt.piece with
    | some x => Rule.pieceClosed s x .dieEnd s.pt.settled
    | none => s := by
  cases hp : s.pt.piece with
  | none => simp only [State.dieEnded, State.closePiece, hp]
  | some x => exact (State.closePiece_eq hp .dieEnd s.pt.settled).trans (if_pos rfl)

/-- No piece is open behind the close, and records return to the pool. -/
theorem State.dieEnded_pt (s : State) : s.dieEnded.pt = { s.pt with piece := none, free := s.dieEnded.pt.free } := by
  have hclosed := s.dieEnded_eq
  cases hp : s.pt.piece with
  | none =>
    have hsame : s.dieEnded = s := by rw [hclosed, hp]
    rw [hsame, ← hp]
  | some x =>
    have hended : s.dieEnded = Rule.pieceClosed s x .dieEnd s.pt.settled := by rw [hclosed, hp]
    rw [hended]
    exact Rule.pieceClosed_pt s x .dieEnd s.pt.settled

/-- The Piece Tracker after a commit (R121). -/
theorem State.dieEnded_committed (s : State) : s.dieEnded.pt.committed = {
    settled := 0, presented := 0, awaited := [], results := [], piece := none, free := s.dieEnded.pt.free
    frontCrop := none, nextPiece := s.pt.nextPiece, burst := 0, episode := false } := by
  rw [State.dieEnded_pt]
  rfl

/-- The report of the piece that a commit ends is the newest (R117, R121). -/
theorem State.dieEnded_report {s : State} {x : Piece} (hx : s.pt.piece = some x) :
    s.dieEnded.rq.reports.getLast? = some (Rule.report s x .dieEnd s.pt.settled) := by
  have hclosed : s.dieEnded = Rule.pieceClosed s x .dieEnd s.pt.settled := by
    rw [State.dieEnded_eq, hx]
  rw [hclosed, Rule.pieceClosed, Rule.appended_reports, List.getLast?_concat]

/-- The report of an active slot's piece names the slot and its die (R122). -/
theorem Rule.report_slot {s : State} {i : Fin 8} (hi : s.cc.active = some i) (x : Piece) (reason : CloseReason)
    (e : Nat) : (Rule.report s x reason e).slot = i.val := by
  simp [Rule.report, hi]

/-- A die slot after a commit. -/
theorem State.commit_dieSlot (s : State) (c : Commit) (j : Fin 8) :
    (s.commit c).dieSlot j = (s.cc.switched c).slots[j] := by
  rw [State.commit_eq]
  rfl

theorem State.commit_target (s : State) (c : Commit) : (s.commit c).dieSlot c.target =
    { s.dieSlot c.target with busy := true, link := c.targetLink } := by
  rw [State.commit_dieSlot, Context.switched_target]
  rfl

theorem State.commit_other (s : State) (c : Commit) {j : Fin 8} (h : j ≠ c.target) : (s.commit c).dieSlot j =
    if s.cc.active = some j then { s.dieSlot j with busy := false, link := c.leftLink.getD (s.dieSlot j).link }
    else s.dieSlot j := by
  rw [State.commit_dieSlot, Context.switched_other _ _ h]
  rfl

/-! ### DIE_CHANGE (R133, R135, R136) -/

/-- The commit of a switch to a slot (R135, R136). -/
def State.switchTo (s : State) (slot : Fin 8) (die : Nat) : Commit :=
  { target := slot, die := some die, activation := some die, targetLink := s.linkHere, leftLink := none
    reverted := false }

/-- What DIE_CHANGE answers for a directory entry (R133 checks 4 to 6). -/
theorem State.dieChange_entry {s : State} {die : Nat} {e : DirEntry} (hengine : s.cc.engine ≠ .switching)
    (hpress : s.pk.state ≠ .pushing) (he : s.enabledEntry die = some e) : s.dieChange die =
      if (s.dieSlot e.slot).state ≠ .sealed then s.switchFailed 4 .noContext 0
      else if (s.dieSlot e.slot).busy then s.switchFailed 5 .alreadyActive 0
      else match firstBad s.headCheck (s.dieSlot e.slot).probes with
        | some k => s.switchFailed 6 .headUnavailable k
        | none => (s.commit (s.switchTo e.slot die)).taken .accepted (.switched e.slot s.cc.active s.linkHere) := by
  have hlets : s.pk.state.letsSwitch = true := s.pk.state.letsSwitch_iff.2 hpress
  simp only [State.dieChange, if_neg hengine, hlets, he]
  rfl

/-- Settles O51: by the first check that fails; the commit block by block. -/
theorem dieChanged : Obligations.DieChanged := by
  intro tag die s hs hdie p failed bad
  have hrun {a : Answer} (h : s.dieChange die = a) :
      exec (.dieChange tag p) s = .next (s.replyTo .dieChange tag p a) := by
    have hread : natAt p 0 2 = die := natAt_whole hdie
    refine exec_answered (c := .dieChange) hs rfl ?_
    rw [← h, State.runCommand, hread]
  have hbad (r : ProbeRec) : s.headCheck r = false ↔ bad r := s.headCheck_eq_false r
  refine ⟨fun he => hrun (if_pos he), fun he hp => hrun ?_, fun he hp => ⟨fun hnone => hrun ?_, fun e hfind => ?_⟩⟩
  · simp only [State.dieChange, if_neg he, hp, PressState.letsSwitch]
    rfl
  · have hentry : s.enabledEntry die = none := by
      refine List.find?_eq_none.2 fun e hmem => ?_
      rw [Bool.and_eq_true, beq_iff_eq]
      exact fun h => Bool.eq_false_iff.1 (hnone e hmem h.1) h.2
    have hlets : s.pk.state.letsSwitch = true := s.pk.state.letsSwitch_iff.2 hp
    simp only [State.dieChange, if_neg he, hlets, hentry]
    rfl
  · intro d
    have hentry := State.dieChange_entry he hp (e := e) (die := die) hfind
    refine ⟨fun hd => hrun (hentry.trans (if_pos hd)), fun hd hbusy => hrun ?_, fun k hd hbusy hk => hrun ?_,
      fun hd hbusy hgood => ?_⟩
    · rw [hentry, if_neg (not_not.2 hd), if_pos hbusy]
      rfl
    · rw [hentry, if_neg (not_not.2 hd), if_neg (Bool.eq_false_iff.1 hbusy), State.firstBad_headCheck hbad, hk]
      rfl
    · intro link
      have hcommit : s.dieChange die =
          ⟨s.commit (s.switchTo e.slot die), .accepted, 0, .switched e.slot s.cc.active link⟩ := by
        rw [hentry, if_neg (not_not.2 hd), if_neg (Bool.eq_false_iff.1 hbusy),
          State.firstBad_headCheck_none hbad hgood]
        rfl
      refine ⟨_, hrun hcommit, s.commit_target _, fun j hj => s.commit_other (s.switchTo e.slot die) hj, ?_⟩
      rw [State.commit_eq]
      refine ⟨rfl, rfl, rfl, Vector.getElem_set_self _, fun j hj => ?_, rfl, rfl, rfl, rfl, rfl, rfl, rfl, rfl, rfl,
        rfl, ?_⟩
      · have hval : e.slot.val ≠ j.val := fun h => hj (Fin.ext h.symm)
        exact Vector.getElem_set_ne e.slot.isLt j.isLt hval
      · intro v
        have hv : s.dieEnded = v := s.dieEnded_eq
        rw [← hv]
        exact ⟨rfl, rfl, s.dieEnded_committed, fun x i hx hi =>
          ⟨_, State.dieEnded_report hx, rfl, Rule.report_slot hi _ _ _, rfl, rfl, rfl, rfl, rfl⟩⟩

/-! ### REVERT (R141, R142) -/

/-- The commit of a revert along a link (R142). -/
def State.revertTo (s : State) (link : SlotLink) : Commit :=
  let die := s.cc.activation[link.slot]
  { target := link.slot, die := die, activation := die, targetLink := (s.dieSlot link.slot).link, leftLink := some none
    reverted := true }

theorem EngineState.tracks_iff (e : EngineState) : e.tracks = true ↔ e ≠ .switching ∧ e ≠ .idle := by
  cases e <;> simp [EngineState.tracks]

/-- The link of the active slot (R141 check 2). -/
theorem State.activeLink_some {s : State} {i : Fin 8} (hi : s.cc.active = some i) :
    s.activeLink = (s.dieSlot i).link := by
  rw [State.activeLink, hi]
  rfl

/-- What REVERT answers for the link of the active slot (R141 checks 3 to 5). -/
theorem State.revertSwitch_link {s : State} {l : SlotLink} (htracks : s.cc.engine.tracks = true)
    (hl : s.activeLink = some l) : s.revertSwitch =
      if s.pk.state = .pushing then s.switchFailed 3 .wrongState 0
      else if (s.dieSlot l.slot).state ≠ .sealed ∨ (s.dieSlot l.slot).gen ≠ l.gen then s.switchFailed 4 .staleLink 0
      else match firstBad s.headCheck (s.dieSlot l.slot).probes with
        | some k => s.switchFailed 5 .headUnavailable k
        | none => (s.commit (s.revertTo l)).taken .accepted
            (.switched l.slot s.cc.active (s.dieSlot l.slot).link) := by
  obtain ⟨hswitching, hidle⟩ := s.cc.engine.tracks_iff.1 htracks
  have hpress : (!s.pk.state.letsSwitch) = true ↔ s.pk.state = .pushing := by
    rw [Bool.not_eq_true', ← Bool.not_eq_true, s.pk.state.letsSwitch_iff, not_not]
  simp only [State.revertSwitch, if_neg hswitching, if_neg hidle, hl, hpress]
  rfl

/-- Settles O52: by the first check that fails; the commit block by block. -/
theorem switchReverted : Obligations.SwitchReverted := by
  intro tag s hs failed bad
  have hrun {a : Answer} (h : s.revertSwitch = a) :
      exec (.revert tag []) s = .next (s.replyTo .revert tag [] a) := exec_answered (c := .revert) hs rfl h
  have hbad (r : ProbeRec) : s.headCheck r = false ↔ bad r := s.headCheck_eq_false r
  refine ⟨fun he => hrun (if_pos he), fun he => hrun ?_, fun i htracks hi => ⟨fun hnone => hrun ?_, fun l hl => ?_⟩⟩
  · have hswitching : s.cc.engine ≠ .switching := he ▸ EngineState.noConfusion
    exact (if_neg hswitching).trans (if_pos he)
  · obtain ⟨hswitching, hidle⟩ := s.cc.engine.tracks_iff.1 htracks
    simp only [State.revertSwitch, if_neg hswitching, if_neg hidle, State.activeLink_some hi, hnone]
    rfl
  · intro d die
    have hlink := State.revertSwitch_link htracks ((State.activeLink_some hi).trans hl)
    refine ⟨fun hp => hrun (hlink.trans (if_pos hp)), fun hp hstale => hrun ?_, fun k hp hd hgen hk => hrun ?_,
      fun hp hd hgen hgood => ?_⟩
    · rw [hlink, if_neg hp, if_pos hstale]
      rfl
    · have hfresh : ¬ (d.state ≠ .sealed ∨ d.gen ≠ l.gen) := not_or.2 ⟨not_not.2 hd, not_not.2 hgen⟩
      rw [hlink, if_neg hp, if_neg hfresh, State.firstBad_headCheck hbad, hk]
      rfl
    · have hfresh : ¬ (d.state ≠ .sealed ∨ d.gen ≠ l.gen) := not_or.2 ⟨not_not.2 hd, not_not.2 hgen⟩
      have hcommit : s.revertSwitch =
          ⟨s.commit (s.revertTo l), .accepted, 0, .switched l.slot (some i) d.link⟩ := by
        rw [hlink, if_neg hp, if_neg hfresh, State.firstBad_headCheck_none hbad hgood, hi]
        rfl
      refine ⟨_, hrun hcommit, s.commit_target _, fun hleft => ?_, fun j hji hjl => ?_, ?_⟩
      · exact (s.commit_other (s.revertTo l) hleft).trans (if_pos hi)
      · refine (s.commit_other (s.revertTo l) hjl).trans (if_neg fun h => hji ?_)
        exact Option.some.inj (h.symm.trans hi)
      rw [State.commit_eq]
      refine ⟨rfl, rfl, rfl, Vector.set_getElem_self _, rfl, rfl, rfl, rfl, rfl, rfl, rfl, rfl, rfl, rfl, ?_⟩
      intro v
      have hv : s.dieEnded = v := s.dieEnded_eq
      rw [← hv]
      exact ⟨rfl, rfl, s.dieEnded_committed, fun x hx =>
        ⟨_, State.dieEnded_report hx, rfl, Rule.report_slot hi _ _ _, rfl, rfl, rfl, rfl, rfl⟩⟩

end Sys2Proof.Machine
end

section
/-! The advance of the settled coordinate (R104, R105, R153): the work along the profile neither reads nor changes the
settled coordinate and the match, so that the items on the way are applied one after another, and the match sees the whole
advance. -/

namespace Sys2Proof.Machine

/-! ### Work that leaves the place -/

/-- The state with another settled coordinate and another match. -/
def State.placed (s : State) (c : Nat) (k : Option Nat) : State :=
  (s.setPt { s.pt with settled := c }).setAu { s.au with matchAt := k }

/-- Work that neither reads nor changes the settled coordinate and the match. -/
def Placeless (f : State → State) : Prop :=
  ∀ (s : State) (c : Nat) (k : Option Nat), f (s.placed c k) = (f s).placed c k

theorem Placeless.id : Placeless fun s => s := fun _ _ _ => rfl

theorem Placeless.comp {f g : State → State} (hg : Placeless g) (hf : Placeless f) : Placeless fun s => g (f s) :=
  fun s c k => (congrArg g (hf s c k)).trans (hg (f s) c k)

theorem Placeless.ite {p : State → Prop} [DecidablePred p] {f g : State → State}
    (hp : ∀ s c k, p (s.placed c k) ↔ p s) (hf : Placeless f) (hg : Placeless g) :
    Placeless fun s => if p s then f s else g s := by
  intro s c k
  by_cases h : p s
  · simp only [if_pos h, if_pos ((hp s c k).2 h), hf s c k]
  · simp only [if_neg h, if_neg (mt (hp s c k).1 h), hg s c k]

theorem Placeless.foldl {α : Type} {f : State → α → State} (hf : ∀ a, Placeless fun s => f s a) (l : List α) :
    Placeless fun s => l.foldl f s := by
  induction l with
  | nil => exact Placeless.id
  | cons a l ih => exact ih.comp (hf a)

/-- Such work leaves the match. -/
theorem Placeless.matchAt {f : State → State} (hf : Placeless f) (s : State) : (f s).au.matchAt = s.au.matchAt := by
  have hplace : f s = (f s).placed s.pt.settled s.au.matchAt := hf s _ _
  rw [hplace]
  rfl

theorem State.raise_placeless (f : AlertFlag) : Placeless fun s => s.raise f := by
  intro s c k
  have hrise : AlertUnit.rise { s.au with matchAt := k } f = { s.au.rise f with matchAt := k } := by
    simp only [AlertUnit.rise]
    split <;> rfl
  exact congrArg (fun a : AlertUnit => (s.setPt { s.pt with settled := c }).setAu a) hrise

theorem State.mapPiece_placeless (f : Piece → Piece) : Placeless fun s => s.mapPiece f := fun _ _ _ => rfl

theorem State.dropOldest_placeless : Placeless State.dropOldest := by
  intro s c k
  have hreports : (s.placed c k).rq.reports = s.rq.reports := rfl
  unfold State.dropOldest
  rw [hreports]
  split
  · rfl
  · rename_i r rest _
    have hdrop : Placeless fun s => (s.setPt { s.pt with free := s.pt.free + r.bins.length }).setRq
      { reports := rest, lastDropped := some r.number, fetchPtr := 0 } := fun _ _ _ => rfl
    exact ((State.raise_placeless .reportOverrun).comp hdrop) s c k

theorem State.appendReport_placeless (r : Report) : Placeless fun s => s.appendReport r := by
  have hroom : Placeless fun s => if s.rq.reports.length < 6 then s else s.dropOldest :=
    .ite (fun _ _ _ => Iff.rfl) .id State.dropOldest_placeless
  have hqueue : Placeless fun s => s.setRq { s.rq with reports := s.rq.reports ++ [r] } := fun _ _ _ => rfl
  exact (State.raise_placeless _).comp (hqueue.comp hroom)

theorem State.noteClose_placeless : Placeless State.noteClose := by
  have hready : Placeless fun s => s.setCc { s.cc with engine := .ready, haltBin := none } := fun _ _ _ => rfl
  exact .ite (fun _ _ _ => Iff.rfl) ((State.raise_placeless _).comp hready) .id

theorem State.openPiece_placeless (p : Nat) (continued : Bool) : Placeless fun s => s.openPiece p continued := by
  have hrecord : Placeless State.withRecord := .ite (fun _ _ _ => Iff.rfl) State.dropOldest_placeless .id
  intro s c k
  have hbefore : (s.placed c k).beforeOpening p continued = (s.beforeOpening p continued).placed c k := by
    simp only [State.beforeOpening, hrecord s c k]
    rfl
  simp only [State.openPiece_eq, hbefore]
  rfl

theorem State.closePiece_placeless (reason : CloseReason) (e : Nat) : Placeless fun s => s.closePiece reason e := by
  intro s c k
  cases hp : s.pt.piece with
  | none =>
    have hp' : (s.placed c k).pt.piece = none := hp
    simp only [State.closePiece, hp, hp']
  | some p =>
    have hleft : Placeless fun s => s.setPt { s.pt with
      piece := none, free := s.pt.free + (p.closed.length + 1 - (Rule.report s p reason e).bins.length) } :=
      fun _ _ _ => rfl
    have hclosed : Rule.pieceClosed (s.placed c k) p reason e = (Rule.pieceClosed s p reason e).placed c k :=
      ((State.appendReport_placeless (Rule.report s p reason e)).comp hleft) s c k
    have hhalt : Rule.haltEnded ((Rule.pieceClosed s p reason e).placed c k) =
      (Rule.haltEnded (Rule.pieceClosed s p reason e)).placed c k := State.noteClose_placeless _ c k
    simp only [State.closePiece_eq hp, State.closePiece_eq (s := s.placed c k) hp, hclosed, hhalt]
    split <;> rfl

theorem State.reopen_placeless (reason : CloseReason) (e x : Nat) (continued : Bool) :
    Placeless fun s => (s.closePiece reason e).openPiece x continued :=
  (State.openPiece_placeless x continued).comp (State.closePiece_placeless reason e)

theorem State.applyBoundary_placeless (e : Nat) : Placeless fun s => s.applyBoundary e := by
  intro s c k
  cases hp : s.pt.piece with
  | none =>
    have hp' : (s.placed c k).pt.piece = none := hp
    simp only [State.applyBoundary, hp, hp']
  | some p =>
    have hp' : (s.placed c k).pt.piece = some p := hp
    have hhalt : Rule.haltEnded (s.placed c k) = (Rule.haltEnded s).placed c k := State.noteClose_placeless s c k
    have hraise : ((Rule.haltEnded s).placed c k).raise .poolExhausted =
      ((Rule.haltEnded s).raise .poolExhausted).placed c k := State.raise_placeless _ _ c k
    have hepisode : (s.placed c k).pt.episode = s.pt.episode := rfl
    by_cases hlen : p.closed.length < 255
    · by_cases hfree : s.pt.free = 0
      · simp only [State.applyBoundary_coalesces hp e hlen hfree, State.applyBoundary_coalesces hp' e hlen hfree, hhalt,
          hraise, hepisode]
        split <;> rfl
      · simp only [State.applyBoundary_opens hp e hlen hfree, State.applyBoundary_opens hp' e hlen hfree, hhalt]
        rfl
    · simp only [State.applyBoundary_reopens hp e hlen, State.applyBoundary_reopens hp' e hlen]
      exact State.reopen_placeless .split e e true s c k

theorem State.boundaryAt_placeless (y : Nat) : Placeless fun s => s.boundaryAt y := by
  intro s c k
  have hpiece : (s.placed c k).pt.piece = s.pt.piece := rfl
  simp only [State.boundaryAt, hpiece]
  split
  · rfl
  · split
    · exact State.applyBoundary_placeless y s c k
    · rfl

theorem State.applyZone_placeless (y : Nat) (m : Mark) : Placeless fun s => s.applyZone y m := by
  intro s c k
  unfold State.applyZone
  split <;> rfl

theorem State.applyCut_placeless (x : Nat) (est : Bool) : Placeless fun s => s.applyCut x est := by
  cases est with
  | false => exact State.reopen_placeless .cut x x false
  | true =>
    exact (State.mapPiece_placeless _).comp ((State.reopen_placeless .cut x x false).comp (State.mapPiece_placeless _))

theorem State.applyAt_placeless (y : Nat) : Placeless fun s => s.applyAt y := by
  intro s c k
  let here := s.pk.queue.takeWhile fun m => decide (m.start ≤ y)
  have hbegin : Placeless fun s => (Rule.zonesClosed s y).setPk { (Rule.zonesClosed s y).pk with
      queue := s.pk.queue.dropWhile fun m => decide (m.start ≤ y) } := fun _ _ _ => rfl
  have hcuts : Placeless fun s => (here.filter fun m => m.kind == .cut).foldl (fun s m => s.applyCut y m.est) s :=
    .foldl (fun m : Mark => State.applyCut_placeless y m.est) _
  have hzones : Placeless fun s => (here.filter fun m => m.kind != .cut).foldl (fun s m => s.applyZone y m) s :=
    .foldl (State.applyZone_placeless y) _
  exact (hzones.comp ((State.boundaryAt_placeless y).comp (hcuts.comp hbegin))) s c k

theorem State.walk_placeless (n y limit : Nat) : Placeless fun s => State.walk n s y limit := by
  induction n generalizing y with
  | zero => exact Placeless.id
  | succ n ih =>
    intro s c k
    have hnext : (s.placed c k).nextItem y limit = s.nextItem y limit := rfl
    simp only [State.walk, hnext]
    cases s.nextItem y limit with
    | none => rfl
    | some d => exact ((ih d).comp (State.applyAt_placeless d)) s c k

/-! ### The walk from item to item (R105) -/

theorem State.walk_done {s : State} {y limit : Nat} (h : s.nextItem y limit = none) (n : Nat) :
    State.walk n s y limit = s := by
  cases n with
  | zero => rfl
  | succ n => simp only [State.walk, h]

theorem State.walk_next {s : State} {y limit c : Nat} (h : s.nextItem y limit = some c) (n : Nat) :
    State.walk (n + 1) s y limit = State.walk n (s.applyAt c) c limit := by simp only [State.walk, h]

theorem State.nextItem_empty (s : State) {y limit : Nat} (h : limit ≤ y) : s.nextItem y limit = none :=
  State.nextItem_eq_none.2 fun _ _ hc => h.trans_lt hc

/-- The walk takes no more steps than there are coordinates. -/
theorem State.walk_enough (s : State) {y limit n m : Nat} (hn : limit - y ≤ n) (hm : limit - y ≤ m) :
    State.walk n s y limit = State.walk m s y limit := by
  induction n generalizing s y m with
  | zero =>
    have hnone := s.nextItem_empty (y := y) (limit := limit) (by omega)
    rw [State.walk_done hnone, State.walk_done hnone]
  | succ n ih =>
    cases hnext : s.nextItem y limit with
    | none => rw [State.walk_done hnext, State.walk_done hnext]
    | some c =>
      obtain ⟨-, hyc, hc⟩ := State.nextItem_mem hnext
      obtain ⟨m, rfl⟩ : ∃ l, m = l + 1 := ⟨m - 1, by omega⟩
      rw [State.walk_next hnext, State.walk_next hnext]
      exact ih _ (by omega) (by omega)

/-- The least item on the way is the next one. -/
theorem State.nextItem_eq_some {s : State} {y limit c : Nat} (hc : c ∈ s.itemCoords) (hy : y < c) (hlimit : c ≤ limit)
    (hleast : ∀ d ∈ s.itemCoords, d ≤ y ∨ c ≤ d) : s.nextItem y limit = some c := by
  cases hnext : s.nextItem y limit with
  | none =>
    have hbeyond := State.nextItem_eq_none.1 hnext c hc hy
    omega
  | some d =>
    obtain ⟨hd, hyd, -⟩ := State.nextItem_mem hnext
    have hdc := State.nextItem_le hnext c hc hy
    have hcd := hleast d hd
    rw [show d = c by omega]

/-! ### The match (R153) -/

theorem State.offerMatch_reached {s : State} {a b : Nat} (h : ∃ k, s.au.matchAt = some k ∧ a < k ∧ k ≤ b) :
    s.offerMatch a b = (s.setAu { s.au with matchAt := none }).raise .coordMatch := by
  obtain ⟨k, hk, hrange⟩ := h
  simp only [State.offerMatch, hk, if_pos hrange]

theorem State.offerMatch_missed {s : State} {a b : Nat} (h : ¬ ∃ k, s.au.matchAt = some k ∧ a < k ∧ k ≤ b) :
    s.offerMatch a b = s := by
  unfold State.offerMatch
  split
  · rfl
  · rename_i k hk
    exact if_neg fun hrange => h ⟨k, hk, hrange⟩

theorem State.walk_matchAt (s : State) (n y limit : Nat) : (State.walk n s y limit).au.matchAt = s.au.matchAt :=
  (State.walk_placeless n y limit).matchAt s

/-- The walk does not read the settled coordinate. -/
theorem State.walk_settled (s : State) (n y limit c : Nat) : State.walk n (s.setPt { s.pt with settled := c }) y limit =
    (State.walk n s y limit).setPt { (State.walk n s y limit).pt with settled := c } := by
  have hmatch := s.walk_matchAt n y limit
  refine (State.walk_placeless n y limit s c s.au.matchAt).trans ?_
  rw [← hmatch]
  rfl

/-! ### The advance (R104) -/

/-- The state in which the match sees an advance to `c`. -/
def State.walked (s : State) (c : Nat) : State :=
  let t := State.walk (c - s.pt.settled) s s.pt.settled c
  t.setPt { t.pt with settled := c }

theorem State.walked_matchAt (s : State) (c : Nat) : (s.walked c).au.matchAt = s.au.matchAt := s.walk_matchAt _ _ _

/-- An advance over no item. -/
theorem State.walked_over {s : State} {c : Nat} (h : s.nextItem s.pt.settled c = none) :
    s.walked c = s.setPt { s.pt with settled := c } := by
  unfold State.walked
  rw [State.walk_done h]

section
variable {s : State} {c : Nat} (hpiece : s.pt.piece.isSome = true) (hc : s.pt.settled < c)
include hpiece hc

theorem State.advanceTo_eq : s.advanceTo c = (s.walked c).offerMatch s.pt.settled c := if_pos ⟨hpiece, hc⟩

theorem State.advanceTo_reached (h : ∃ k, s.au.matchAt = some k ∧ s.pt.settled < k ∧ k ≤ c) :
    s.advanceTo c = ((s.walked c).setAu { (s.walked c).au with matchAt := none }).raise .coordMatch := by
  rw [State.advanceTo_eq hpiece hc]
  exact State.offerMatch_reached (by rwa [State.walked_matchAt])

theorem State.advanceTo_missed (h : ¬ ∃ k, s.au.matchAt = some k ∧ s.pt.settled < k ∧ k ≤ c) :
    s.advanceTo c = s.walked c := by
  rw [State.advanceTo_eq hpiece hc]
  exact State.offerMatch_missed (by rwa [State.walked_matchAt])

/-- The least item on the way is applied, and the advance goes on from there. -/
theorem State.advanceTo_next {y : Nat} (hnext : s.nextItem s.pt.settled c = some y) (hmatch : s.au.matchAt = none) :
    let u := s.applyAt y
    s.advanceTo c = (u.setPt { u.pt with settled := y }).advanceTo c := by
  intro u
  obtain ⟨-, hsy, hyc⟩ := State.nextItem_mem hnext
  have hmissed {t : State} (ht : t.au.matchAt = none) (a b : Nat) :
      ¬ ∃ k, t.au.matchAt = some k ∧ a < k ∧ k ≤ b := by
    rintro ⟨k, hk, -⟩
    cases ht.symm.trans hk
  have hu : u.au.matchAt = none := ((State.applyAt_placeless y).matchAt s).trans hmatch
  have hwalk : s.walked c = (State.walk (c - y) u y c).setPt { (State.walk (c - y) u y c).pt with settled := c } := by
    obtain ⟨n, hn⟩ : ∃ n, c - s.pt.settled = n + 1 := ⟨c - s.pt.settled - 1, by omega⟩
    unfold State.walked
    rw [hn, State.walk_next hnext, State.walk_enough u (m := c - y) (by omega) le_rfl]
  rw [State.advanceTo_missed hpiece hc (hmissed hmatch _ _), hwalk]
  by_cases hlast : y < c
  · have hopen : u.pt.piece.isSome = true := (s.applyAt_stays y).piece hpiece
    rw [State.advanceTo_missed (s := u.setPt { u.pt with settled := y }) hopen hlast (hmissed hu _ _), State.walked,
      State.walk_settled]
    rfl
  · obtain rfl : y = c := by omega
    have hstays : ¬ ((u.setPt { u.pt with settled := y }).pt.piece.isSome = true ∧ y < y) := fun h => hlast h.2
    rw [Nat.sub_self]
    exact (if_neg hstays).symm

end

end Sys2Proof.Machine
end

section
/-! SECTION_APPLICATION (R104 to R106, R113, R122, R125, R153, R167): a section result counted into the current bin, the
burst counter, the trace, and the advances before and behind it. -/

namespace Sys2Proof.Machine

/-! ### A section counted (R106, R113) -/

/-- A section counted into a bin (R113). -/
theorem countSection_eq (r : SecResult) (b : Bin) : countSection r b = { b with
    sections := min (b.sections + 1) 65535
    notGauged := if ∃ e ∈ r.gauges, e.cls = .notGauged then min (b.notGauged + 1) 65535 else b.notGauged
    tMin := some (b.tMin.toList.foldl min r.temp)
    tMax := some (b.tMax.toList.foldl max r.temp)
    gauges := b.gauges.map (countGauge r.gauges) } := by
  have hnotGauged : (r.gauges.any fun e => e.cls == .notGauged) = true ↔ ∃ e ∈ r.gauges, e.cls = .notGauged := by simp
  simp only [countSection, hnotGauged]
  cases b.tMin <;> cases b.tMax <;> simp [Nat.min_comm, Nat.max_comm]

/-- A referenced head is missing from the section (R106, R122). -/
theorem State.lacksHead_iff (s : State) (r : SecResult) : s.lacksHead r = true ↔
    ∃ h, (s.ge.compiled.any fun c => HeadSet.has c.referenced h && !HeadSet.has r.contrib h) = true := by
  unfold State.lacksHead
  cases s.ge.compiled with
  | none => simp
  | some c =>
    simp only [bne_iff_ne, ne_eq, HeadSet.eq_zero_iff, HeadSet.has_diff, not_forall, Bool.not_eq_false,
      Option.any_some]

/-- The open piece with a section counted into its current bin (R106, R113, R122). -/
def State.countedPiece (s : State) (r : SecResult) (p : Piece) : Piece :=
  { p with cur := countSection r p.cur, flags := if s.lacksHead r then p.flags ||| 16 else p.flags }

/-! ### The burst counter (R125) -/

/-- An OUT gauge in a section. -/
abbrev SecResult.out (r : SecResult) : Prop := ∃ e ∈ r.gauges, e.cls = .outLo ∨ e.cls = .outHi

/-- What stops the burst counter: BURST is set, or a zone of the discard policy is open. -/
abbrev State.burstPaused (s : State) : Prop :=
  FlagSet.has s.au.flags .burst = true ∨ s.openTags &&& s.params.policy ≠ 0

/-- The burst counter behind a section. -/
def State.burstAfter (s : State) (r : SecResult) : Nat :=
  if s.params.burstLimit = 0 then 0 else if s.burstPaused then s.pt.burst else if r.out then s.pt.burst + 1 else 0

/-- A section at which BURST is raised. -/
abbrev State.bursts (s : State) (r : SecResult) : Prop :=
  s.params.burstLimit ≠ 0 ∧ ¬ s.burstPaused ∧ r.out ∧ s.params.burstLimit ≤ s.pt.burst + 1

theorem State.countBurst_eq (s : State) (r : SecResult) :
    let u := s.setPt { s.pt with burst := s.burstAfter r }
    s.countBurst r = if s.bursts r then u.raise .burst else u := by
  intro u
  have hout : (r.gauges.any fun e => e.cls == .outLo || e.cls == .outHi) = true ↔ r.out := by
    simp [List.any_eq_true]
  have hzone : s.inDiscardZone = true ↔ s.openTags &&& s.params.policy ≠ 0 := bne_iff_ne
  simp only [State.countBurst, hout, hzone]
  by_cases hlimit : s.params.burstLimit = 0
  · have hnone : ¬ s.bursts r := fun h => h.1 hlimit
    simp only [u, State.burstAfter, if_pos hlimit, if_neg hnone]
  · by_cases hpaused : s.burstPaused
    · have hnone : ¬ s.bursts r := fun h => h.2.1 hpaused
      simp only [u, State.burstAfter, if_neg hlimit, if_pos hpaused, if_neg hnone]
      rcases hpaused with hset | hopen
      · exact if_pos hset
      · rw [if_pos hopen, ite_self]
        rfl
    · obtain ⟨hset, hopen⟩ := not_or.1 hpaused
      simp only [u, State.burstAfter, if_neg hlimit, if_neg hpaused, if_neg hset, if_neg hopen]
      by_cases hr : r.out
      · simp only [State.bursts, hlimit, hpaused, hr, ne_eq, not_false_eq_true, true_and]
        rfl
      · have hnone : ¬ s.bursts r := fun h => hr h.2.2.1
        simp only [if_neg hr, if_neg hnone]

/-! ### The trace (R167) -/

/-- The Line Port behind an offered result (R167), with the number of the piece it is counted into. -/
def LinePort.offered (l : LinePort) (r : SecResult) (piece : Nat) : LinePort :=
  if l.traceN = 0 then l
  else if l.decim + 1 < l.traceN then { l with decim := l.decim + 1 }
  else { l with
    decim := 0, traceBuf := some (traceOf r piece)
    replaced := if l.traceBuf = none then l.replaced else min (l.replaced + 1) 255 }

theorem State.offerTrace_eq {s : State} {p : Piece} (hp : s.pt.piece = some p) (r : SecResult) :
    s.offerTrace r = s.setLp (s.lp.offered r p.number) := by
  unfold State.offerTrace LinePort.offered
  simp only [hp, ite_isSome]
  split
  · rfl
  · split <;> rfl

/-- The Line Port's decoder and transmitter do not see an offered result. -/
theorem LinePort.offered_kept (l : LinePort) (r : SecResult) (piece : Nat) :
    (l.offered r piece).slot = l.slot ∧ (l.offered r piece).queue = l.queue ∧ (l.offered r piece).tx = l.tx := by
  unfold LinePort.offered
  (repeat' split) <;> exact ⟨rfl, rfl, rfl⟩

/-! ### The whole of a section counted -/

/-- A section counted (R106 steps 2 to 5). -/
theorem State.sectionCounted_eq {s : State} {p : Piece} (hp : s.pt.piece = some p) (r : SecResult) :
    let u := (s.setPt { s.pt with
      awaited := s.pt.awaited.drop 1, burst := s.burstAfter r, piece := some (s.countedPiece r p) }).setLp
      (s.lp.offered r p.number)
    s.sectionCounted r = if s.bursts r then u.raise .burst else u := by
  intro u
  have hcount : s.mapPiece (fun p => { p with cur := countSection r p.cur }) =
      s.setPt { s.pt with piece := some { p with cur := countSection r p.cur } } := by
    rw [State.mapPiece, hp]
    rfl
  let v := s.setPt { s.pt with piece := some (s.countedPiece r p) }
  have hgap : (if s.lacksHead r then
      (s.setPt { s.pt with piece := some { p with cur := countSection r p.cur } }).mapPiece (·.flag .headGap)
      else s.setPt { s.pt with piece := some { p with cur := countSection r p.cur } }) = v := by
    simp only [v, State.countedPiece]
    split <;> rfl
  have hdef : s.sectionCounted r =
      (let w := ((if s.lacksHead r then
        (s.setPt { s.pt with piece := some { p with cur := countSection r p.cur } }).mapPiece (·.flag .headGap)
        else s.setPt { s.pt with piece := some { p with cur := countSection r p.cur } }).countBurst r).offerTrace r
      w.setPt { w.pt with awaited := w.pt.awaited.drop 1 }) := by
    rw [State.sectionCounted, hcount]
    rfl
  have hburst : v.countBurst r = if s.bursts r then (v.setPt { v.pt with burst := s.burstAfter r }).raise .burst
    else v.setPt { v.pt with burst := s.burstAfter r } := v.countBurst_eq r
  rw [hdef, hgap, hburst]
  split
  · rw [State.offerTrace_eq (p := s.countedPiece r p) rfl]
    rfl
  · rw [State.offerTrace_eq (p := s.countedPiece r p) rfl]
    rfl

/-! ### The row (R104, R106) -/

theorem State.advanceTo_piece (s : State) (c : Nat) (h : s.pt.piece.isSome = true) :
    (s.advanceTo c).pt.piece.isSome = true := by
  unfold State.advanceTo
  split
  · exact (State.offerMatch_stays _ _ _).piece ((State.walk_stays (c - s.pt.settled) s s.pt.settled c).piece h)
  · exact h

/-- With an open piece the settled coordinate goes up to the one given (R104). -/
theorem State.advanceTo_max {s : State} (h : s.pt.piece.isSome = true) (c : Nat) :
    (s.advanceTo c).pt.settled = max s.pt.settled c := by
  rw [State.advanceTo_settled]
  split
  · rename_i hmoves
    exact (max_eq_right hmoves.2.le).symm
  · rename_i hstays
    exact (max_eq_left (Nat.not_lt.1 fun hc => hstays ⟨h, hc⟩)).symm

/-- Nothing lies between the settled coordinate and one at or below it. -/
theorem State.advanceTo_le {s : State} {c : Nat} (h : c ≤ s.pt.settled) : s.advanceTo c = s :=
  if_neg fun hmoves => Nat.not_lt.2 h hmoves.2

/-- The target of the settled coordinate as a least coordinate (R104). -/
theorem State.target_eq (s : State) : s.target = (s.sa.pend.head?.map PendSlot.coord).toList.foldl min
    (s.pt.awaited.head?.toList.foldl min s.pt.presented) := by
  unfold State.target
  cases s.sa.pend with
  | nil => cases s.pt.awaited <;> rfl
  | cons p l =>
    cases s.pt.awaited with
    | nil => rfl
    | cons x m => exact Nat.min_right_comm _ _ _

theorem exec_sectionApplication {s : State} (hreset : s.inReset = false) (h : s.applySection.Drained) :
    exec .sectionApplication s = .next s.applySection.transmit := event_of_drained hreset h

/-- What a section counted leaves beside the Piece Tracker's own (R106). -/
structure SectionBlocks (s t : State) : Prop where
  inReset : t.inReset = s.inReset
  lt : t.lt = s.lt
  sa : t.sa = s.sa
  hl : t.hl = s.hl
  slot : t.lp.slot = s.lp.slot
  queue : t.lp.queue = s.lp.queue
  tx : t.lp.tx = s.lp.tx

theorem SectionBlocks.trans {s t u : State} (h : SectionBlocks s t) (k : SectionBlocks t u) : SectionBlocks s u :=
  ⟨k.inReset.trans h.inReset, k.lt.trans h.lt, k.sa.trans h.sa, k.hl.trans h.hl, k.slot.trans h.slot,
    k.queue.trans h.queue, k.tx.trans h.tx⟩

theorem PieceFrame.sectionBlocks {s t : State} (h : PieceFrame s t) : SectionBlocks s t :=
  ⟨h.inReset, h.lt, h.sa, h.hl, by rw [h.lp], by rw [h.lp], by rw [h.lp]⟩

theorem SectionBlocks.drained {s t : State} (h : SectionBlocks s t) (hs : s.Drained) : t.Drained := by
  obtain ⟨hreset, hqueue, hslot⟩ := hs
  refine ⟨h.inReset.trans hreset, ?_, ?_⟩
  · rw [h.slot, h.queue]
    exact hqueue
  · rw [h.tx, h.slot]
    exact hslot

section
variable {s : State} {p : Piece} (hp : s.pt.piece = some p) (r : SecResult)
include hp

theorem State.sectionCounted_blocks : SectionBlocks s (s.sectionCounted r) := by
  obtain ⟨hslot, hqueue, htx⟩ := s.lp.offered_kept r p.number
  rw [State.sectionCounted_eq hp]
  split <;> exact ⟨rfl, rfl, rfl, rfl, hslot, hqueue, htx⟩

/-- The coordinates of the Piece Tracker behind a section counted: the oldest awaited one is no more. -/
theorem State.sectionCounted_pt : ∃ piece burst, (s.sectionCounted r).pt =
    { s.pt with awaited := s.pt.awaited.drop 1, piece := some piece, burst := burst } := by
  rw [State.sectionCounted_eq hp]
  split <;> exact ⟨_, _, rfl⟩

end

/-- What the application of a section leads to, with an open piece. -/
structure Applied (s t : State) (r : SecResult) : Prop where
  blocks : SectionBlocks s t
  results : t.pt.results = s.pt.results
  awaited : t.pt.awaited = s.pt.awaited.drop 1
  settled : t.pt.settled = max s.pt.settled (max r.coord ((s.sa.pend.head?.map PendSlot.coord).toList.foldl min
    ((s.pt.awaited.drop 1).head?.toList.foldl min s.pt.presented)))

theorem State.applyResult_applied {s : State} (h : s.pt.piece.isSome = true) (r : SecResult) :
    Applied s (s.applyResult r) r := by
  obtain ⟨p, hp⟩ := Option.isSome_iff_exists.1 (s.advanceTo_piece r.coord h)
  have hfirst := s.advanceTo_frame r.coord
  have hcounted := State.sectionCounted_blocks hp r
  obtain ⟨piece, burst, hpt⟩ := State.sectionCounted_pt hp r
  have hlast := State.advance_frame ((s.advanceTo r.coord).sectionCounted r)
  have hopen : ((s.advanceTo r.coord).sectionCounted r).pt.piece.isSome = true := by rw [hpt]; rfl
  rw [State.applyResult_eq]
  refine ⟨(hfirst.sectionBlocks.trans hcounted).trans hlast.sectionBlocks, ?_, ?_, ?_⟩
  · rw [hlast.results, hpt, ← hfirst.results]
  · rw [hlast.awaited, hpt, ← hfirst.awaited]
  · rw [State.advance, State.advanceTo_max hopen, State.target_eq, hcounted.sa, hpt, hfirst.sa, hfirst.awaited,
      hfirst.presented, State.advanceTo_max h, max_assoc]

/-- With nothing to advance over, a result is counted where the settled coordinate stands. -/
theorem State.applyResult_here {s : State} {p : Piece} (hp : s.pt.piece = some p) {r : SecResult}
    (hr : r.coord ≤ s.pt.settled) (hpresented : s.pt.presented ≤ s.pt.settled) :
    s.applyResult r = s.sectionCounted r := by
  obtain ⟨piece, burst, hpt⟩ := State.sectionCounted_pt hp r
  have htarget : (s.sectionCounted r).target ≤ (s.sectionCounted r).pt.settled := by
    refine (State.target_le _).trans ?_
    rw [hpt]
    exact hpresented
  rw [State.applyResult_eq, State.advanceTo_le hr, State.advance, State.advanceTo_le htarget]

/-- The coordinates at which an item stands (R105). -/
theorem State.mem_itemCoords {s : State} {p : Piece} (hp : s.pt.piece = some p) (y : Nat) : y ∈ s.itemCoords ↔
    s.pk.stopZone = some y ∨ s.pk.weldZone = some y ∨ s.pt.frontCrop = some y ∨
      (∃ m ∈ s.pk.queue, m.start = y) ∨ (p.bounded = true ∧ p.cur.stop = y) := by
  have hend : y ∈ (if p.bounded then [p.cur.stop] else []) ↔ p.bounded = true ∧ p.cur.stop = y := by
    cases p.bounded <;> simp [eq_comm]
  simp only [State.itemCoords, hp, List.mem_append, Option.mem_toList, List.mem_map, or_assoc, hend]

/-- Settles O38: the row by whether a result waits; the result counted where nothing is to be advanced over; the advance
by the least item on its way and by the match. -/
theorem sectionApplied : Obligations.SectionApplied := by
  intro s hs
  refine ⟨fun hnone => ?_, fun r rest p hr hp => ?_, fun r rest p hr hp hcoord hpresented => ?_, fun p c hp hc => ?_⟩
  · have hidle : s.applySection = s := by simp only [State.applySection, hnone]
    have hdrained : s.applySection.Drained := by rwa [hidle]
    rw [exec_sectionApplication hs.1 hdrained, hidle]
  · intro target
    have hopen : (s.setPt { s.pt with results := rest }).pt.piece.isSome = true := by rw [State.setPt_pt, hp]; rfl
    have happlied := State.applyResult_applied hopen r
    have hrow : s.applySection = (s.setPt { s.pt with results := rest }).applyResult r := by
      simp only [State.applySection, hr]
    have hdrained : s.applySection.Drained := by
      rw [hrow]
      exact happlied.blocks.drained hs
    refine ⟨_, exec_sectionApplication hs.1 hdrained, ?_⟩
    simp only [State.transmit_pt, State.transmit_lt, State.transmit_sa, State.transmit_hl, hrow]
    exact ⟨happlied.results, happlied.awaited, happlied.settled, happlied.blocks.lt, happlied.blocks.sa,
      happlied.blocks.hl⟩
  · intro cur gap out paused limit burst lp u
    let t := s.setPt { s.pt with results := rest }
    have hrow : s.applySection = t.sectionCounted r := by
      simp only [State.applySection, hr]
      exact State.applyResult_here (s := t) hp hcoord hpresented
    have hpiece : t.countedPiece r p = { p with cur := cur, flags := if gap then p.flags ||| 16 else p.flags } := by
      have hflags : (if t.lacksHead r then p.flags ||| 16 else p.flags) = if gap then p.flags ||| 16 else p.flags :=
        if_congr (t.lacksHead_iff r) rfl rfl
      rw [State.countedPiece, hflags, countSection_eq]
    have hcounted : t.sectionCounted r =
        if limit ≠ 0 ∧ ¬ paused ∧ out ∧ limit ≤ s.pt.burst + 1 then u.raise .burst else u := by
      rw [State.sectionCounted_eq (s := t) hp, hpiece]
      rfl
    have hdrained : s.applySection.Drained := by
      rw [hrow]
      exact (State.sectionCounted_blocks (s := t) hp r).drained hs
    rw [exec_sectionApplication hs.1 hdrained, hrow, hcounted]
  · intro item reached
    have hopen : s.pt.piece.isSome = true := by rw [hp]; rfl
    have hitem (y : Nat) : y ∈ s.itemCoords ↔ item y := State.mem_itemCoords hp y
    refine ⟨fun hover => ?_, fun y hy hsy hyc hleast hmatch => ?_, fun h => ?_, fun h => ?_⟩
    · intro u
      have hnone : s.nextItem s.pt.settled c = none := by
        refine State.nextItem_eq_none.2 fun y hy hsy => ?_
        exact (hover y ((hitem y).1 hy)).resolve_left (Nat.not_le.2 hsy)
      have hwalked : s.walked c = u := State.walked_over hnone
      refine ⟨fun h => ?_, fun h => ?_⟩
      · rw [State.advanceTo_reached hopen hc h, hwalked]
        rfl
      · rw [State.advanceTo_missed hopen hc h, hwalked]
    · exact State.advanceTo_next hopen hc
        (State.nextItem_eq_some ((hitem y).2 hy) hsy hyc fun z hz => hleast z ((hitem z).1 hz)) hmatch
    · rw [State.advanceTo_reached hopen hc h]
      obtain ⟨-, -, hmatch⟩ := AlertUnit.rise_frame { (s.walked c).au with matchAt := none } .coordMatch
      exact ⟨hmatch, State.raise_has _ _⟩
    · rw [State.advanceTo_missed hopen hc h, State.walked_matchAt]

end Sys2Proof.Machine
end

section
/-! START and HALT by engine state, and the soft reset block by block (R130, R131, R143, R181). -/

namespace Sys2Proof.Machine

/-- Settles O43: by the engine state; in RUNNING the halt bin is the open piece's current bin. -/
theorem startAndHalt : Obligations.StartAndHalt := by
  intro tag s hs
  refine ⟨exec_answered (c := .start) hs rfl ?_, fun p hp => exec_answered (c := .halt) hs rfl ?_⟩
  · change s.startEngine = _
    unfold State.startEngine
    cases s.cc.engine <;> rfl
  · change s.haltEngine = _
    unfold State.haltEngine
    cases he : s.cc.engine
    case running =>
      rw [hp he]
      rfl
    all_goals rfl

/-! ### The soft reset (R143, R181) -/

/-- Every slot keeps its contents and is not busy. -/
theorem State.softReset_dieSlot (s : State) (i : Fin 8) :
    s.softReset.dieSlot i = { s.dieSlot i with busy := false } := by
  simp [State.softReset, State.dieSlot]

theorem State.softReset_head (s : State) (h : Fin 4) : s.softReset.head h = (s.head h).softReset := by
  simp [State.softReset, State.head]

/-- A head that is not DISABLED goes to HUNTING (R46). -/
theorem Head.softReset_eq (x : Head) : x.softReset = { x with
    status := if x.status = .disabled then .disabled else .hunting
    miss := 0, recov := 0, fault := .clear, lock := false } := by
  cases hx : x.status <;> simp [Head.softReset, Head.enabled, hx]

/-- Settles O60: the soft reset block by block; the decoder is free, so no reply is lost with the reply slot. -/
theorem engineReset : Obligations.EngineReset := by
  intro tag s hs
  obtain ⟨-, hslot, -⟩ := id hs
  refine ⟨s.softReset, exec_answered (c := .resetEngine) hs rfl rfl, ?_⟩
  iterate 8 refine ⟨rfl, ?_⟩
  refine ⟨s.softReset_dieSlot, rfl, rfl,
    rfl, rfl, fun h => (s.softReset_head h).trans (Head.softReset_eq _), ?_⟩
  iterate 16 refine ⟨rfl, ?_⟩
  change { s.lp with slot := none, error := none, fault := .clear, decim := 0, traceBuf := none, replaced := 0 } = _
  rw [← hslot]

end Sys2Proof.Machine
end

section
/-! The laws between the blocks right after a hard reset (R182): nothing waits, nothing is on its way, and no slot is
busy. -/

namespace Sys2Proof.Machine

theorem State.reset_lineSound : State.reset.LineSound := ⟨Nat.zero_le 4, fun _ => rfl, fun _ => ⟨rfl, rfl, rfl⟩⟩

theorem State.reset_alertSound : State.reset.AlertSound := nofun

/-- In IDLE with no active slot and no busy slot the busy law holds (R129). -/
theorem State.busySound_of_idle {s : State} (hengine : s.cc.engine = .idle) (hactive : s.cc.active = none)
    (hfree : ∀ i, (s.dieSlot i).busy = false) : s.BusySound := by
  refine ⟨fun i => ?_, fun i hi => ?_, iff_of_true hengine hactive⟩
  · rw [hfree i, hactive]
    exact iff_of_false Bool.false_ne_true nofun
  · rw [hfree i] at hi
    cases hi

theorem State.reset_busySound : State.reset.BusySound :=
  State.busySound_of_idle rfl rfl fun i => by rw [State.reset_dieSlot]; rfl

/-- Every record is in the pool (R103, R155). -/
theorem State.reset_poolSound : State.reset.PoolSound :=
  ⟨rfl, Nat.zero_le 6, nofun, Nat.zero_le 256, iff_of_false Bool.false_ne_true Bool.false_ne_true⟩

theorem State.reset_marksSound : State.reset.MarksSound := ⟨Nat.zero_le 16, .nil, nofun⟩

theorem State.reset_coordSound : State.reset.CoordSound :=
  ⟨Nat.zero_le _, Nat.zero_le _, Nat.zero_le _, rfl, Nat.zero_le _, List.forall_mem_nil _, List.forall_mem_nil _,
    List.forall_mem_nil _, List.forall_mem_nil _⟩

/-- Every sample of the history is 0 (R32). -/
theorem State.reset_historySound : State.reset.HistorySound :=
  ⟨List.length_replicate, fun _ hc => (List.eq_of_mem_replicate hc).le, List.pairwise_replicate_of_refl⟩

/-- Settles O4: law by law; nothing waits, and no coordinate is above 0. -/
theorem resetIsSound : Obligations.ResetIsSound :=
  ⟨State.reset_lineSound, State.reset_alertSound, State.reset_busySound, State.reset_poolSound,
    State.reset_marksSound, State.reset_coordSound, State.reset_historySound, State.reset_slotsSound⟩

end Sys2Proof.Machine
end

section
/-! The busy law (R129): the work along the profile ends a halt and leaves the rest of the Context Controller, the slot
commands refuse a busy slot, and a commit moves the busy flag with the active slot, so every step keeps the law. -/

namespace Sys2Proof.Machine

/-! ### What the work along the profile does to the Context Controller (R132) -/

/-- The Context Controller of `t` is that of `s`, or that of `s` at the end of a halt. -/
inductive HaltMayEnd (s t : State) : Prop
  | stays (h : t.cc = s.cc)
  | ends (hs : s.cc.engine = .halting) (h : t.cc = { s.cc with engine := .ready, haltBin := none })

theorem HaltMayEnd.refl (s : State) : HaltMayEnd s s := .stays rfl

theorem HaltMayEnd.trans {s t u : State} (h : HaltMayEnd s t) (k : HaltMayEnd t u) : HaltMayEnd s u := by
  rcases h with h | ⟨hs, h⟩
  · rcases k with k | ⟨ht, k⟩
    · exact .stays (k.trans h)
    · exact .ends (h ▸ ht) (k.trans (by rw [h]))
  · rcases k with k | ⟨ht, k⟩
    · exact .ends hs (k.trans h)
    · rw [h] at ht
      cases ht

/-- What comes behind a change of other blocks. -/
theorem HaltMayEnd.after {s u t : State} (k : HaltMayEnd u t) (h : u.cc = s.cc) : HaltMayEnd s t :=
  (HaltMayEnd.stays h).trans k

theorem HaltMayEnd.foldl {α : Type} (f : State → α → State) (hf : ∀ s a, HaltMayEnd s (f s a)) (l : List α)
    (s : State) : HaltMayEnd s (l.foldl f s) :=
  List.foldlRecOn l f (.refl s) fun t ht a _ => ht.trans (hf t a)

theorem State.noteClose_haltMayEnd (s : State) : HaltMayEnd s s.noteClose := by
  unfold State.noteClose
  split
  · rename_i hs
    exact .ends hs rfl
  · exact .refl s

theorem State.closePiece_haltMayEnd (s : State) (r : CloseReason) (e : Nat) : HaltMayEnd s (s.closePiece r e) := by
  unfold State.closePiece
  split
  · exact .refl s
  · dsimp only
    split
    · exact .stays (State.appendReport_cc _ _)
    · exact (State.noteClose_haltMayEnd _).after (State.appendReport_cc _ _)

theorem State.reopen_haltMayEnd (s : State) (r : CloseReason) (e p : Nat) (continued : Bool) :
    HaltMayEnd s ((s.closePiece r e).openPiece p continued) :=
  (s.closePiece_haltMayEnd r e).trans (.stays (State.openPiece_cc _ _ _))

theorem State.applyBoundary_haltMayEnd (s : State) (e : Nat) : HaltMayEnd s (s.applyBoundary e) := by
  unfold State.applyBoundary
  split
  · exact .refl s
  · split
    · refine s.noteClose_haltMayEnd.trans (.stays ?_)
      dsimp only
      split
      · rfl
      · split <;> rfl
    · exact s.reopen_haltMayEnd _ _ _ _

theorem State.boundaryAt_haltMayEnd (s : State) (y : Nat) : HaltMayEnd s (s.boundaryAt y) := by
  unfold State.boundaryAt
  split
  · exact .refl s
  · split
    · exact s.applyBoundary_haltMayEnd y
    · exact .refl s

theorem State.applyZone_cc (s : State) (y : Nat) (m : Mark) : (s.applyZone y m).cc = s.cc := by
  rw [State.applyZone_eq]
  unfold Rule.zoneMark
  dsimp only
  split <;> rfl

theorem State.applyCut_haltMayEnd (s : State) (x : Nat) (est : Bool) : HaltMayEnd s (s.applyCut x est) := by
  cases est
  · exact s.reopen_haltMayEnd _ _ _ _
  · have hreopen := (s.mapPiece (·.flag .estimatedMark)).reopen_haltMayEnd .cut x x false
    exact (hreopen.after (s := s) rfl).trans (.stays rfl)

theorem State.applyAt_haltMayEnd (s : State) (y : Nat) : HaltMayEnd s (s.applyAt y) := by
  unfold State.applyAt
  refine HaltMayEnd.trans ?_ (HaltMayEnd.foldl _ (fun s m => .stays (s.applyZone_cc y m)) _ _)
  refine HaltMayEnd.trans ?_ (State.boundaryAt_haltMayEnd _ _)
  exact (HaltMayEnd.foldl _ (fun s (m : Mark) => s.applyCut_haltMayEnd y m.est) _ _).after rfl

theorem State.walk_haltMayEnd : ∀ (n : Nat) (s : State) (y limit : Nat), HaltMayEnd s (State.walk n s y limit)
  | 0, s, _, _ => .refl s
  | n + 1, s, y, limit => by
    unfold State.walk
    split
    · exact .refl s
    · exact (s.applyAt_haltMayEnd _).trans (State.walk_haltMayEnd n _ _ _)

theorem State.offerMatch_cc (s : State) (a b : Nat) : (s.offerMatch a b).cc = s.cc := by
  unfold State.offerMatch
  (repeat' split) <;> rfl

theorem State.advanceTo_haltMayEnd (s : State) (c : Nat) : HaltMayEnd s (s.advanceTo c) := by
  unfold State.advanceTo
  split
  · exact (State.walk_haltMayEnd (c - s.pt.settled) s s.pt.settled c).trans (.stays (State.offerMatch_cc _ _ _))
  · exact .refl s

theorem State.advance_haltMayEnd (s : State) : HaltMayEnd s s.advance := s.advanceTo_haltMayEnd _

theorem State.countBurst_cc (s : State) (r : SecResult) : (s.countBurst r).cc = s.cc := by
  unfold State.countBurst
  dsimp only
  (repeat' split) <;> rfl

theorem State.sectionCounted_cc (s : State) (r : SecResult) : (s.sectionCounted r).cc = s.cc := by
  unfold State.sectionCounted
  dsimp only
  rw [State.setPt_cc, State.offerTrace_cc, State.countBurst_cc]
  split <;> rfl

/-- Both advances of an application may end a halt, and the count between them leaves the Context Controller (R106). -/
theorem State.applyResult_haltMayEnd (s : State) (r : SecResult) : HaltMayEnd s (s.applyResult r) := by
  rw [State.applyResult_eq]
  refine HaltMayEnd.trans ?_ (State.advance_haltMayEnd _)
  exact (s.advanceTo_haltMayEnd r.coord).trans (.stays (State.sectionCounted_cc _ r))

theorem State.applySection_haltMayEnd (s : State) : HaltMayEnd s s.applySection := by
  unfold State.applySection
  split
  · exact .refl s
  · exact (State.applyResult_haltMayEnd _ _).after rfl

/-! Press notices. -/

theorem State.lateCut_haltMayEnd (s : State) (x : Nat) (est : Bool) : HaltMayEnd s (s.lateCut x est) := by
  unfold State.lateCut
  refine HaltMayEnd.trans ?_ (State.walk_haltMayEnd _ _ _ _)
  exact (State.applyCut_haltMayEnd _ _ _).after rfl

theorem State.deliverMark_haltMayEnd (s : State) (m : Mark) : HaltMayEnd s (s.deliverMark m).1 := by
  unfold State.deliverMark State.handLate
  split
  · split
    · split
      · split
        · exact s.lateCut_haltMayEnd _ _
        · exact .refl s
      · exact .refl s
    · exact .stays (State.applyZone_cc _ _ _)
  · split
    · exact .refl s
    · split <;> exact .stays rfl

theorem State.answerMark_haltMayEnd (s : State) (look : Nat × Bool) (formed : Nat) (m : Mark) :
    HaltMayEnd s (s.answerMark look formed m).st := s.deliverMark_haltMayEnd m

theorem State.ramStop_haltMayEnd (s : State) (a n : Nat) : HaltMayEnd s (s.ramStop a n).st := by
  unfold State.ramStop
  dsimp only
  split
  case h_1 => exact .refl s
  case h_2 => split <;> exact .stays rfl
  all_goals
    split
    · exact .refl s
    · exact (State.answerMark_haltMayEnd _ _ _ _).after rfl

theorem State.ramStart_haltMayEnd (s : State) (a n b : Nat) : HaltMayEnd s (s.ramStart a n b).st := by
  unfold State.ramStart
  dsimp only
  split
  case h_1 => exact .refl s
  case h_2 => split <;> exact .stays rfl
  all_goals
    split
    · exact .refl s
    · split
      · split
        · exact .stays rfl
        · exact (State.answerMark_haltMayEnd _ _ _ _).after rfl
      · exact .stays rfl

theorem State.cutNotice_haltMayEnd (s : State) (a n : Nat) : HaltMayEnd s (s.cutNotice a n).st := by
  unfold State.cutNotice
  dsimp only
  split
  case h_1 => exact .refl s
  case h_2 => exact .refl s
  all_goals exact s.answerMark_haltMayEnd _ _ _

/-! ### What keeps the busy law -/

/-- The busy law holds in `t` if it holds in `s`. -/
structure BusyKept (s t : State) : Prop where
  sound : s.BusySound → t.BusySound

theorem BusyKept.trans {s t u : State} (h : BusyKept s t) (k : BusyKept t u) : BusyKept s u := ⟨k.sound ∘ h.sound⟩

/-- The law reads the slots, the active slot, and whether the engine state is IDLE. -/
theorem BusyKept.of_eq {s t : State} (hslots : t.cc.slots = s.cc.slots) (hactive : t.cc.active = s.cc.active)
    (hidle : t.cc.engine = .idle ↔ s.cc.engine = .idle) : BusyKept s t :=
  ⟨by simp only [State.BusySound, State.dieSlot, hslots, hactive, hidle, imp_self]⟩

theorem BusyKept.of_cc {s t : State} (h : t.cc = s.cc) : BusyKept s t := .of_eq (by rw [h]) (by rw [h]) (by rw [h])

theorem BusyKept.refl (s : State) : BusyKept s s := .of_cc rfl

/-- The end of a halt leads from one engine state with an active slot to another. -/
theorem HaltMayEnd.busyKept {s t : State} (h : HaltMayEnd s t) : BusyKept s t := by
  rcases h with h | ⟨hs, h⟩
  · exact .of_cc h
  · refine .of_eq (by rw [h]) (by rw [h]) ?_
    rw [h, hs]
    exact iff_of_false nofun nofun

/-- A compilation ends with the active slot that it began with (R137). -/
theorem State.compilationDone_busyKept (s : State) : BusyKept s s.compilationDone := by
  by_cases he : s.cc.engine = .switching
  · cases hi : s.cc.active with
    | none =>
      have hnone : s.compilationDone = s := by simp only [State.compilationDone, he, hi]
      rw [hnone]
      exact .refl s
    | some i =>
      have hready : BusyKept s (s.compiled i) := .of_eq rfl rfl (by rw [he]; exact iff_of_false nofun nofun)
      have hopened : BusyKept (s.compiled i) ((s.compiled i).openPiece 0 false) := .of_cc (State.openPiece_cc _ _ _)
      rw [State.compilationDone_eq he hi]
      exact ((hready.trans hopened).trans (State.advance_haltMayEnd _).busyKept).trans (.of_cc rfl)
  · rw [State.compilationDone_idle he]
    exact .refl s

/-! ### The slot commands (R9, R11 to R15, R20) -/

/-- A slot that is not busy may change if it does not become busy. -/
theorem State.putSlot_busyKept (s : State) {i : Fin 8} {d : DieSlot} (hi : ¬ (s.dieSlot i).busy = true)
    (hd : ¬ d.busy = true) : BusyKept s (s.putSlot i d) := by
  refine ⟨fun ⟨hbusy, hsealed, hidle⟩ => ⟨fun j => ?_, fun j hj => ?_, hidle⟩⟩ <;> by_cases hji : j = i
  · rw [hji, s.putSlot_dieSlot_self]
    exact iff_of_false hd fun h => hi ((hbusy i).2 h)
  · rw [s.putSlot_dieSlot_other d hji]
    exact hbusy j
  · rw [hji, s.putSlot_dieSlot_self] at hj
    exact absurd hj hd
  · rw [s.putSlot_dieSlot_other d hji] at hj ⊢
    exact hsealed j hj

theorem State.onSlot_busyKept (s : State) (p : List Byte) {f : Fin 8 → Answer} (h : ∀ i, BusyKept s (f i).st) :
    BusyKept s (s.onSlot p f).st := by
  unfold State.onSlot
  split
  · exact h _
  · exact .refl s

theorem State.openSlot_busyKept (s : State) (i : Fin 8) : BusyKept s (s.openSlot i).st := by
  unfold State.openSlot
  dsimp only
  split
  · exact .refl s
  · rename_i hfree
    split
    · exact .refl s
    · exact s.putSlot_busyKept hfree hfree

theorem State.writeParams_busyKept (s : State) (i : Fin 8) (r : List Byte) : BusyKept s (s.writeParams i r).st := by
  unfold State.writeParams
  dsimp only
  split
  · exact .refl s
  · rename_i hfree
    split
    · exact .refl s
    · split
      · exact .refl s
      · exact s.putSlot_busyKept hfree hfree

theorem State.writeProbes_busyKept (s : State) (i : Fin 8) (start : Nat) (rs : List (List Byte)) :
    BusyKept s (s.writeProbes i start rs).st := by
  unfold State.writeProbes
  dsimp only
  split
  · exact .refl s
  · rename_i hfree
    split
    · exact .refl s
    · split
      · exact .refl s
      · split
        · exact .refl s
        · exact s.putSlot_busyKept hfree hfree

theorem State.writeGauges_busyKept (s : State) (i : Fin 8) (start : Nat) (rs : List (List Byte)) :
    BusyKept s (s.writeGauges i start rs).st := by
  unfold State.writeGauges
  dsimp only
  split
  · exact .refl s
  · rename_i hfree
    split
    · exact .refl s
    · split
      · exact .refl s
      · split
        · exact .refl s
        · exact s.putSlot_busyKept hfree hfree

/-- A LOADING slot is not busy, since a busy slot is SEALED. -/
theorem State.BusySound.not_busy {s : State} (hs : s.BusySound) {i : Fin 8} (hi : (s.dieSlot i).state = .loading) :
    ¬ (s.dieSlot i).busy = true := fun hbusy => by
  obtain ⟨-, hsealed, -⟩ := hs
  exact SlotState.noConfusion (hi.symm.trans (hsealed i hbusy))

theorem State.sealSlot_busyKept (s : State) (i : Fin 8) : BusyKept s (s.sealSlot i).st := by
  unfold State.sealSlot
  dsimp only
  split
  · exact .refl s
  · exact .refl s
  · rename_i hloading
    split
    · exact .refl s
    · refine ⟨fun hs => ?_⟩
      have hfree := hs.not_busy hloading
      refine BusyKept.sound (s.putSlot_busyKept hfree ?_) hs
      exact hfree

theorem State.eraseSlot_busyKept (s : State) (i : Fin 8) : BusyKept s (s.eraseSlot i).st := by
  unfold State.eraseSlot
  dsimp only
  split
  · exact .refl s
  · rename_i hfree
    split
    · exact .refl s
    · exact s.putSlot_busyKept hfree Bool.false_ne_true

/-! ### The directory, the engine states and the switches (R24, R25, R130, R131, R133 to R136, R141 to R143) -/

theorem State.mapDie_busyKept (s : State) (die : Nat) (slot enabled : Byte) :
    BusyKept s (s.mapDie die slot enabled).st := by
  unfold State.mapDie
  (repeat' split) <;> exact .of_eq rfl rfl .rfl

theorem State.unmapDie_busyKept (s : State) (die : Nat) : BusyKept s (s.unmapDie die).st := by
  unfold State.unmapDie
  (repeat' split) <;> exact .of_eq rfl rfl .rfl

/-- START leaves one engine state with an active slot for another. -/
theorem State.startEngine_busyKept (s : State) : BusyKept s s.startEngine.st := by
  unfold State.startEngine
  split
  case h_1 => exact .refl s
  case h_2 => exact .refl s
  case h_5 => exact .refl s
  all_goals
    rename_i he
    exact .of_eq rfl rfl (by rw [he]; exact iff_of_false nofun nofun)

theorem State.haltEngine_busyKept (s : State) : BusyKept s s.haltEngine.st := by
  unfold State.haltEngine
  split
  case h_3 he => exact .of_eq rfl rfl (by rw [he]; exact iff_of_false nofun nofun)
  all_goals exact .refl s

/-- A commit clears the busy flag of the slot that was active and sets that of its SEALED target (R129). -/
theorem State.commit_busyKept (s : State) (c : Commit) (hsealed : (s.dieSlot c.target).state = .sealed) :
    BusyKept s (s.commit c) := by
  refine ⟨fun ⟨hbusy, _, _⟩ => ?_⟩
  have htarget : (s.commit c).dieSlot c.target = { s.dieSlot c.target with busy := true, link := c.targetLink } :=
    s.commit_target c
  have hactive : (s.commit c).cc.active = some c.target := by rw [State.commit_eq]; rfl
  have hother {j : Fin 8} (hj : j ≠ c.target) : ¬ ((s.commit c).dieSlot j).busy = true := by
    rw [s.commit_other c hj]
    split
    · exact Bool.false_ne_true
    · rename_i hleft
      exact fun h => hleft ((hbusy j).1 h)
  refine ⟨fun j => ?_, fun j hj => ?_, ?_⟩
  · rw [hactive, Option.some.injEq]
    by_cases hj : j = c.target
    · rw [hj, htarget]
      exact iff_of_true rfl rfl
    · exact iff_of_false (hother hj) (Ne.symm hj)
  · obtain rfl : j = c.target := not_not.1 fun hne => hother hne hj
    rw [htarget]
    exact hsealed
  · rw [hactive, State.commit_eq]
    exact iff_of_false nofun nofun

/-- A switch that does not fail commits to a SEALED slot (R133 check 4). -/
theorem State.dieChange_commits (s : State) (die : Nat) : (s.dieChange die).st = s.raise .switchFailed ∨
    ∃ c : Commit, (s.dieSlot c.target).state = .sealed ∧ (s.dieChange die).st = s.commit c := by
  unfold State.dieChange
  dsimp only
  split
  · exact .inl rfl
  · split
    · exact .inl rfl
    · split
      · exact .inl rfl
      · split
        · exact .inl rfl
        · rename_i hsealed
          split
          · exact .inl rfl
          · split
            · exact .inl rfl
            · exact .inr ⟨_, not_not.1 hsealed, rfl⟩

/-- A revert that does not fail commits to a SEALED slot (R141 check 4). -/
theorem State.revertSwitch_commits (s : State) : s.revertSwitch.st = s.raise .switchFailed ∨
    ∃ c : Commit, (s.dieSlot c.target).state = .sealed ∧ s.revertSwitch.st = s.commit c := by
  unfold State.revertSwitch
  dsimp only
  split
  · exact .inl rfl
  · split
    · exact .inl rfl
    · split
      · exact .inl rfl
      · split
        · exact .inl rfl
        · split
          · exact .inl rfl
          · rename_i hok
            split
            · exact .inl rfl
            · exact .inr ⟨_, not_not.1 (not_or.1 hok).1, rfl⟩

theorem BusyKept.of_switch {s t : State} (h : t = s.raise .switchFailed ∨
    ∃ c : Commit, (s.dieSlot c.target).state = .sealed ∧ t = s.commit c) : BusyKept s t := by
  rcases h with rfl | ⟨c, hsealed, rfl⟩
  · exact .of_cc rfl
  · exact s.commit_busyKept c hsealed

theorem State.softReset_busySound (s : State) : s.softReset.BusySound :=
  State.busySound_of_idle rfl rfl fun i => by rw [State.softReset_dieSlot]

/-! ### Every step -/

theorem BusyKept.sectionLaw : SectionLaw BusyKept where
  trans := BusyKept.trans
  beside h := .of_cc h.cc
  passing _ _ _ _ := .of_cc rfl
  advance s := s.advance_haltMayEnd.busyKept

theorem State.runCommand_busyKept (s : State) (c : Command) (a : Nat) (p : List Byte) :
    BusyKept s (s.runCommand c a p).st := by
  cases c
  case identify => exact .refl s
  case sense => exact .refl s
  case getStatus => exact .refl s
  case setGeometry => exact .of_cc (s.setGeometry_cc p)
  case setHeads => exact BusyKept.sectionLaw.setHeads s _ _ _ _
  case setHeadCal => exact .of_cc (s.setHeadCal_cc _ _ _ _)
  case openSlot => exact s.onSlot_busyKept p s.openSlot_busyKept
  case writeParams => exact s.onSlot_busyKept p fun i => s.writeParams_busyKept i _
  case writeProbesFirst => exact s.onSlot_busyKept p fun i => s.writeProbes_busyKept i _ _
  case writeProbesNext => exact s.onSlot_busyKept p fun i => s.writeProbes_busyKept i _ _
  case writeGaugesFirst => exact s.onSlot_busyKept p fun i => s.writeGauges_busyKept i _ _
  case writeGaugesNext => exact s.onSlot_busyKept p fun i => s.writeGauges_busyKept i _ _
  case sealSlot => exact s.onSlot_busyKept p s.sealSlot_busyKept
  case eraseSlot => exact s.onSlot_busyKept p s.eraseSlot_busyKept
  case querySlot => exact s.onSlot_busyKept p fun _ => .refl s
  case mapDie => exact s.mapDie_busyKept _ _ _
  case unmapDie => exact s.unmapDie_busyKept _
  case dieChange => exact .of_switch (s.dieChange_commits _)
  case revert => exact .of_switch s.revertSwitch_commits
  case start => exact s.startEngine_busyKept
  case halt => exact s.haltEngine_busyKept
  case noteRamStop => exact (s.ramStop_haltMayEnd _ _).busyKept
  case noteRamStart => exact (s.ramStart_haltMayEnd _ _ _).busyKept
  case noteCut => exact (s.cutNotice_haltMayEnd _ _).busyKept
  case fetchFirst => exact .of_cc s.fetchFirst_cc
  case fetchNext => exact .of_cc s.fetchNext_cc
  case setFetchPointer => exact .of_cc (s.setFetchPointer_cc _)
  case release => exact .of_cc (s.release_cc _)
  case setTrace => exact .of_cc rfl
  case setNotices => exact .of_cc rfl
  case ackAlerts => exact .of_cc (s.ackAlerts_cc _)
  case setMatch => exact .of_cc (s.setMatch_cc _ _)
  case resetEngine => exact ⟨fun _ => s.softReset_busySound⟩

theorem BusyKept.stepLaw : StepLaw BusyKept where
  toSectionLaw := BusyKept.sectionLaw
  applySection s := s.applySection_haltMayEnd.busyKept
  compilationDone := State.compilationDone_busyKept
  runCommand := State.runCommand_busyKept
  reset _ := ⟨fun _ => State.reset_busySound⟩

/-- Settles O9: a step keeps the active slot and its busy flag, moves both at a commit, or clears both at a reset. -/
theorem busyLawKept : Obligations.BusyLawKept := fun _ _ hs hstep => (BusyKept.stepLaw.step hstep).sound hs

end Sys2Proof.Machine
end

section
/-! The law of the pending alert frame (R147 to R149): a rise sets a flag and enters it in the frame only where it is
enabled, ACK_ALERTS and SET_NOTICES take what they clear or disable out of the frame, and everything else leaves the
frame or ends it, so every step keeps the law. -/

namespace Sys2Proof.Machine

/-! ### Sets of flags -/

/-- The bits of `a` outside `b`. -/
theorem FlagSet.mem_diff (a b : FlagSet) (i : Nat) :
    (a &&& ~~~b).getLsbD i = true ↔ a.getLsbD i = true ∧ b.getLsbD i = false := by
  rw [BitVec.getLsbD_and, BitVec.getLsbD_not, Bool.and_eq_true, Bool.and_eq_true, Bool.not_eq_true']
  exact ⟨fun ⟨ha, _, hb⟩ => ⟨ha, hb⟩, fun ⟨ha, hb⟩ => ⟨ha, decide_eq_true (BitVec.lt_of_getLsbD ha), hb⟩⟩

theorem FlagSet.mem_or (a b : FlagSet) (i : Nat) :
    (a ||| b).getLsbD i = true ↔ a.getLsbD i = true ∨ b.getLsbD i = true := by
  rw [BitVec.getLsbD_or, Bool.or_eq_true]

/-- One set of flags lies in another when no bit of it is outside. -/
theorem FlagSet.diff_eq_zero_iff (a b : FlagSet) :
    a &&& ~~~b = 0 ↔ ∀ i, a.getLsbD i = true → b.getLsbD i = true := by
  constructor
  · intro h i ha
    by_contra hb
    have hdiff := (FlagSet.mem_diff a b i).2 ⟨ha, Bool.eq_false_iff.2 hb⟩
    rw [h] at hdiff
    exact absurd hdiff (by simp)
  · intro h
    refine BitVec.eq_of_getLsbD_eq fun i _ => ?_
    rw [BitVec.ofNat_eq_ofNat, BitVec.getLsbD_zero, Bool.eq_false_iff, ne_eq, FlagSet.mem_diff]
    rintro ⟨ha, hb⟩
    exact absurd (h i ha) (Bool.eq_false_iff.1 hb)

theorem AlertFlag.bit_ne_zero (f : AlertFlag) : f.bit ≠ 0 := by cases f <;> decide

/-- The bit of a flag is the one at its index. -/
theorem AlertFlag.mem_bit {f : AlertFlag} {i : Nat} (h : f.bit.getLsbD i = true) : i = f.index := by
  rw [AlertFlag.bit, BitVec.getLsbD_ofNat, Bool.and_eq_true, Nat.testBit_two_pow, decide_eq_true_iff,
    decide_eq_true_iff] at h
  exact h.2.symm

/-! ### The Alert Unit (R146 to R149) -/

/-- The newly set flags of a pending frame are not empty, are set, and are enabled (R147 to R149). -/
structure AlertUnit.Lawful (a : AlertUnit) (n : FlagSet) : Prop where
  nonempty : n ≠ 0
  set : ∀ i, n.getLsbD i = true → a.flags.getLsbD i = true
  enabled : ∀ i, n.getLsbD i = true → a.enable.getLsbD i = true

/-- The law of the pending frame, if there is one. -/
def AlertUnit.Sound (a : AlertUnit) : Prop := ∀ n, a.newly = some n → a.Lawful n

theorem State.alertSound_iff (s : State) : s.AlertSound ↔ s.au.Sound := by
  simp only [State.AlertSound, FlagSet.diff_eq_zero_iff]
  exact forall₂_congr fun _ _ =>
    ⟨fun ⟨hne, hset, hon⟩ => ⟨hne, hset, hon⟩, fun ⟨hne, hset, hon⟩ => ⟨hne, hset, hon⟩⟩

/-- Without a pending frame the law holds. -/
theorem AlertUnit.sound_of_none {a : AlertUnit} (h : a.newly = none) : a.Sound := fun n hn => by
  rw [h] at hn
  cases hn

/-- What a pending frame has gathered is set and enabled. -/
theorem AlertUnit.Sound.gathered {a : AlertUnit} (h : a.Sound) {i : Nat} (hi : (a.newly.getD 0).getLsbD i = true) :
    a.flags.getLsbD i = true ∧ a.enable.getLsbD i = true := by
  cases hnewly : a.newly with
  | none =>
    rw [hnewly] at hi
    exact absurd hi (by simp)
  | some m =>
    rw [hnewly] at hi
    exact ⟨(h m hnewly).set i hi, (h m hnewly).enabled i hi⟩

/-- A risen flag is set, and joins the pending frame, or forms one, only if it is enabled (R146, R147). -/
theorem AlertUnit.Sound.rise {a : AlertUnit} (h : a.Sound) (f : AlertFlag) : (a.rise f).Sound := by
  unfold AlertUnit.rise
  split
  · exact h
  · intro n hn
    dsimp only at hn
    split at hn
    · rename_i hon
      obtain rfl := Option.some.inj hn
      refine ⟨fun hzero => f.bit_ne_zero (BitVec.or_eq_zero_iff.1 hzero).2, fun i hi => ?_, fun i hi => ?_⟩
      · exact (FlagSet.mem_or _ _ i).2 (((FlagSet.mem_or _ _ i).1 hi).imp_left fun hold => (h.gathered hold).1)
      · rcases (FlagSet.mem_or _ _ i).1 hi with hold | hbit
        · exact (h.gathered hold).2
        · rw [AlertFlag.mem_bit hbit]
          exact hon
    · obtain ⟨hne, hset, hon⟩ := h n hn
      exact ⟨hne, fun i hi => (FlagSet.mem_or _ _ i).2 (.inl (hset i hi)), hon⟩

/-- What is left of a pending frame is not empty, and is what it held outside `off` (R149). -/
theorem withdraw_eq_some {newly : Option FlagSet} {off n : FlagSet} (h : withdraw newly off = some n) :
    ∃ m, newly = some m ∧ n = m &&& ~~~off ∧ n ≠ 0 := by
  unfold withdraw at h
  split at h
  · cases h
  · rename_i m
    split at h
    · cases h
    · rename_i hne
      obtain rfl := Option.some.inj h
      exact ⟨m, rfl, rfl, hne⟩

/-- A flag that ACK_ALERTS clears leaves the pending frame (R149, R150). -/
theorem AlertUnit.Sound.ack {a : AlertUnit} (h : a.Sound) (mask : FlagSet) : (a.ack mask).Sound := by
  intro n hn
  obtain ⟨m, hm, rfl, hne⟩ := withdraw_eq_some hn
  obtain ⟨-, hset, hon⟩ := h m hm
  refine ⟨hne, fun i hi => ?_, fun i hi => hon i ((FlagSet.mem_diff _ _ i).1 hi).1⟩
  obtain ⟨him, hkept⟩ := (FlagSet.mem_diff _ _ i).1 hi
  rw [BitVec.getLsbD_and, hset i him, Bool.true_and] at hkept
  exact (FlagSet.mem_diff _ _ i).2 ⟨hset i him, hkept⟩

/-- A flag that SET_NOTICES disables leaves the pending frame (R149, R152). -/
theorem AlertUnit.Sound.setEnable {a : AlertUnit} (h : a.Sound) (enable : FlagSet) : (a.setEnable enable).Sound := by
  intro n hn
  obtain ⟨m, hm, rfl, hne⟩ := withdraw_eq_some hn
  obtain ⟨-, hset, -⟩ := h m hm
  refine ⟨hne, fun i hi => hset i ((FlagSet.mem_diff _ _ i).1 hi).1, fun i hi => ?_⟩
  rw [BitVec.not_not, BitVec.getLsbD_and, Bool.and_eq_true] at hi
  exact hi.2

/-! ### What keeps the law -/

/-- The law of the pending alert frame holds in `t` if it holds in `s`. -/
structure AlertKept (s t : State) : Prop where
  sound : s.au.Sound → t.au.Sound

/-- What the law reads: the flags, the notice-enable set and the pending frame. -/
def AlertUnit.notices (a : AlertUnit) : FlagSet × FlagSet × Option FlagSet := (a.flags, a.enable, a.newly)

theorem AlertKept.of_notices {s t : State} (h : t.au.notices = s.au.notices) : AlertKept s t := by
  obtain ⟨hflags, henable, hnewly⟩ : t.au.flags = s.au.flags ∧ t.au.enable = s.au.enable ∧ t.au.newly = s.au.newly := by
    simpa only [AlertUnit.notices, Prod.mk.injEq] using h
  refine ⟨fun hs n hn => ?_⟩
  obtain ⟨hne, hset, hon⟩ := hs n (hnewly ▸ hn)
  exact ⟨hne, hflags ▸ hset, henable ▸ hon⟩

theorem AlertKept.of_au {s t : State} (h : t.au = s.au) : AlertKept s t := .of_notices (congrArg AlertUnit.notices h)

theorem AlertKept.of_none {s t : State} (h : t.au.newly = none) : AlertKept s t :=
  ⟨fun _ => AlertUnit.sound_of_none h⟩

theorem AlertKept.refl (s : State) : AlertKept s s := .of_au rfl

theorem AlertKept.trans {s t u : State} (h : AlertKept s t) (k : AlertKept t u) : AlertKept s u := ⟨k.sound ∘ h.sound⟩

/-- What comes behind a change that leaves flags, notice-enable set and pending frame. -/
theorem AlertKept.after {s u t : State} (k : AlertKept u t) (h : u.au.notices = s.au.notices) : AlertKept s t :=
  (AlertKept.of_notices h).trans k

theorem AlertKept.foldl {α : Type} (f : State → α → State) (hf : ∀ s a, AlertKept s (f s a)) (l : List α)
    (s : State) : AlertKept s (l.foldl f s) :=
  List.foldlRecOn l f (.refl s) fun t ht a _ => ht.trans (hf t a)

theorem State.raise_alertKept (s : State) (f : AlertFlag) : AlertKept s (s.raise f) := ⟨fun hs => hs.rise f⟩

/-! ### The work along the profile -/

theorem State.dropOldest_alertKept (s : State) : AlertKept s s.dropOldest := by
  unfold State.dropOldest
  split
  · exact .refl s
  · exact (State.raise_alertKept _ _).after rfl

theorem State.appendReport_alertKept (s : State) (r : Report) : AlertKept s (s.appendReport r) := by
  unfold State.appendReport
  dsimp only
  split
  · exact (State.raise_alertKept _ _).after rfl
  · exact s.dropOldest_alertKept.trans ((State.raise_alertKept _ _).after rfl)

theorem State.noteClose_alertKept (s : State) : AlertKept s s.noteClose := by
  unfold State.noteClose
  split
  · exact (State.raise_alertKept _ _).after rfl
  · exact .refl s

theorem State.openPiece_alertKept (s : State) (p : Nat) (continued : Bool) : AlertKept s (s.openPiece p continued) := by
  unfold State.openPiece
  dsimp only
  split
  · exact s.dropOldest_alertKept.trans (.of_au rfl)
  · exact .of_au rfl

theorem State.closePiece_alertKept (s : State) (r : CloseReason) (e : Nat) : AlertKept s (s.closePiece r e) := by
  unfold State.closePiece
  split
  · exact .refl s
  · dsimp only
    split
    · exact (State.appendReport_alertKept _ _).after rfl
    · exact ((State.appendReport_alertKept _ _).trans (State.noteClose_alertKept _)).after rfl

theorem State.reopen_alertKept (s : State) (r : CloseReason) (e p : Nat) (continued : Bool) :
    AlertKept s ((s.closePiece r e).openPiece p continued) :=
  (s.closePiece_alertKept r e).trans (State.openPiece_alertKept _ _ _)

theorem State.applyBoundary_alertKept (s : State) (e : Nat) : AlertKept s (s.applyBoundary e) := by
  unfold State.applyBoundary
  split
  · exact .refl s
  · split
    · refine s.noteClose_alertKept.trans ?_
      dsimp only
      split
      · exact .of_au rfl
      · split
        · exact .of_au rfl
        · exact (State.raise_alertKept _ _).trans (.of_au rfl)
    · exact s.reopen_alertKept _ _ _ _

theorem State.boundaryAt_alertKept (s : State) (y : Nat) : AlertKept s (s.boundaryAt y) := by
  unfold State.boundaryAt
  split
  · exact .refl s
  · split
    · exact s.applyBoundary_alertKept y
    · exact .refl s

theorem State.applyZone_alertKept (s : State) (y : Nat) (m : Mark) : AlertKept s (s.applyZone y m) := .of_au rfl

theorem State.applyCut_alertKept (s : State) (x : Nat) (est : Bool) : AlertKept s (s.applyCut x est) := by
  cases est
  · exact s.reopen_alertKept _ _ _ _
  · have hreopen := (s.mapPiece (·.flag .estimatedMark)).reopen_alertKept .cut x x false
    exact (hreopen.after (s := s) rfl).trans (.of_au rfl)

theorem State.applyAt_alertKept (s : State) (y : Nat) : AlertKept s (s.applyAt y) := by
  unfold State.applyAt
  refine AlertKept.trans ?_ (AlertKept.foldl _ (fun s m => s.applyZone_alertKept y m) _ _)
  refine AlertKept.trans ?_ (State.boundaryAt_alertKept _ _)
  exact (AlertKept.foldl _ (fun s (m : Mark) => s.applyCut_alertKept y m.est) _ _).after rfl

theorem State.walk_alertKept : ∀ (n : Nat) (s : State) (y limit : Nat), AlertKept s (State.walk n s y limit)
  | 0, s, _, _ => .refl s
  | n + 1, s, y, limit => by
    unfold State.walk
    split
    · exact .refl s
    · exact (s.applyAt_alertKept _).trans (State.walk_alertKept n _ _ _)

theorem State.offerMatch_alertKept (s : State) (a b : Nat) : AlertKept s (s.offerMatch a b) := by
  unfold State.offerMatch
  split
  · exact .refl s
  · split
    · exact (State.raise_alertKept _ _).after rfl
    · exact .refl s

theorem State.advanceTo_alertKept (s : State) (c : Nat) : AlertKept s (s.advanceTo c) := by
  unfold State.advanceTo
  split
  · have hwalk := State.walk_alertKept (c - s.pt.settled) s s.pt.settled c
    exact hwalk.trans ((State.offerMatch_alertKept _ _ _).after rfl)
  · exact .refl s

theorem State.advance_alertKept (s : State) : AlertKept s s.advance := s.advanceTo_alertKept _

/-! ### Sections -/

theorem State.countBurst_alertKept (s : State) (r : SecResult) : AlertKept s (s.countBurst r) := by
  unfold State.countBurst
  dsimp only
  split
  · exact .of_au rfl
  · split
    · exact .refl s
    · split
      · exact .refl s
      · split
        · split
          · exact (State.raise_alertKept _ _).after rfl
          · exact .of_au rfl
        · exact .of_au rfl

theorem State.offerTrace_au (s : State) (r : SecResult) : (s.offerTrace r).au = s.au := by
  unfold State.offerTrace
  (repeat' split) <;> rfl

theorem State.sectionCounted_alertKept (s : State) (r : SecResult) : AlertKept s (s.sectionCounted r) := by
  unfold State.sectionCounted
  dsimp only
  refine AlertKept.trans ?_ (.of_au (State.offerTrace_au _ r))
  refine (State.countBurst_alertKept _ r).after ?_
  split <;> rfl

theorem State.applySection_alertKept (s : State) : AlertKept s s.applySection := by
  unfold State.applySection
  split
  · exact .refl s
  · rename_i r rest _
    rw [State.applyResult_eq]
    refine AlertKept.trans ?_ (State.advance_alertKept _)
    exact ((State.advanceTo_alertKept _ _).trans (State.sectionCounted_alertKept _ r)).after rfl

theorem State.sectionTemperature_alertKept (s : State) (p : PendSlot) (c : HeadSet) :
    AlertKept s (s.sectionTemperature p c).2.2 := by
  unfold State.sectionTemperature
  split
  · dsimp only
    split
    · exact (State.raise_alertKept _ _).after rfl
    · exact .of_au rfl
  · exact .of_au rfl

theorem State.countMisses_alertKept (s : State) (p : PendSlot) : AlertKept s (s.countMisses p) := by
  unfold State.countMisses
  dsimp only
  split
  · exact (State.raise_alertKept _ _).after rfl
  · exact .of_au rfl

theorem State.retire_alertKept (s : State) (p : PendSlot) (c : HeadSet) : AlertKept s (s.retire p c) := by
  unfold State.retire
  have htemp := s.sectionTemperature_alertKept p c
  generalize s.sectionTemperature p c = r at htemp
  obtain ⟨temp, held, u⟩ := r
  have hcount := ((u.hand p c temp held).countMisses_alertKept p).after (s := u) rfl
  exact (htemp.trans hcount).trans ((State.advance_alertKept _).after rfl)

theorem State.retireUpTo_alertKept : ∀ (n : Nat) (s : State), AlertKept s (State.retireUpTo n s)
  | 0, s => .refl s
  | n + 1, s => by
    unfold State.retireUpTo
    split
    · split
      · exact (s.retire_alertKept _ _).trans (State.retireUpTo_alertKept n _)
      · exact .refl s
    · exact .refl s

theorem State.cascade_alertKept (s : State) : AlertKept s s.cascade := State.retireUpTo_alertKept _ s

theorem State.settleSections_alertKept (s : State) : AlertKept s s.settleSections := (State.cascade_alertKept _).after rfl

theorem State.evaluateNext_alertKept (s : State) : AlertKept s s.evaluateNext := by
  unfold State.evaluateNext
  split <;> exact .of_au rfl

/-! ### Wheel counts -/

theorem State.noteLimit_alertKept (s : State) : AlertKept s s.noteLimit := by
  unfold State.noteLimit
  split
  · exact (State.raise_alertKept _ _).after rfl
  · exact .refl s

theorem State.liveChanged_alertKept (s : State) : AlertKept s s.liveChanged := by
  obtain ⟨-, -, -, hau, -⟩ := s.noteLimit.gridDecide_blocks s.lt.live
  rw [s.liveChanged_eq]
  refine AlertKept.trans ?_ (State.cascade_alertKept _)
  refine s.noteLimit_alertKept.trans ((AlertKept.of_au hau).trans ?_)
  exact (State.advance_alertKept _).after rfl

theorem State.wheel_alertKept (s : State) (a b : Bool) : AlertKept s (s.wheel a b) := by
  unfold State.wheel State.forwardCount
  dsimp only
  split
  · exact .of_au rfl
  · split
    · exact .of_au rfl
    · split
      · exact .of_au rfl
      · split
        · exact .of_au rfl
        · exact (State.liveChanged_alertKept _).after rfl
  · exact .of_au rfl

/-! ### Links -/

theorem State.headDown_alertKept (s : State) (h : Fin 4) (f : HeadFault) (lock : Bool) :
    AlertKept s (s.headDown h f lock) := by
  unfold State.headDown
  dsimp only
  split
  · exact ((State.raise_alertKept _ .headSync).trans (State.settleSections_alertKept _)).after rfl
  · exact .of_au rfl

theorem State.headFinds_alertKept (h : Fin 4) (s : State) (e : LinkEvent) : AlertKept s (State.headFinds h s e) := by
  cases e with
  | symbolError => exact s.headDown_alertKept h _ _
  | frame bs =>
    simp only [State.headFinds, State.sectionFrame]
    split
    · exact .of_au rfl
    · exact (State.settleSections_alertKept _).after rfl

theorem State.headHears_alertKept (s : State) (h : Fin 4) (inFrame ended : Bool) (run : List Symbol) :
    AlertKept s (s.headHears h inFrame ended run) := by
  unfold State.headHears
  dsimp only
  split
  · exact (AlertKept.foldl _ (State.headFinds_alertKept h) _ _).after rfl
  · exact .refl s

theorem State.headLockLoss_alertKept (s : State) (h : Fin 4) : AlertKept s (s.headLockLoss h) := by
  unfold State.headLockLoss
  split
  · exact s.headDown_alertKept h _ _
  · exact .refl s

theorem State.headLockGain_alertKept (s : State) (h : Fin 4) : AlertKept s (s.headLockGain h) := by
  unfold State.headLockGain
  split <;> exact .of_au rfl

theorem State.goodCommand_alertKept (s : State) (code tag : Byte) (p : List Byte) :
    AlertKept s (s.goodCommand code tag p) := by
  unfold State.goodCommand
  split
  · exact .of_au rfl
  · exact (State.raise_alertKept _ _).after rfl

theorem State.lineFinds_alertKept (s : State) (e : LinkEvent) : AlertKept s (s.lineFinds e) := by
  cases e with
  | symbolError => exact (State.raise_alertKept _ _).after rfl
  | frame bs =>
    simp only [State.lineFinds, State.lineFrame]
    split
    · exact (State.raise_alertKept _ _).after rfl
    · exact s.goodCommand_alertKept _ _ _

theorem State.lineHears_alertKept (s : State) (inFrame ended : Bool) (run : List Symbol) :
    AlertKept s (s.lineHears inFrame ended run) := by
  unfold State.lineHears
  dsimp only
  split
  · exact (AlertKept.foldl _ State.lineFinds_alertKept _ _).after rfl
  · exact .refl s

theorem State.lineLockLoss_alertKept (s : State) (inFrame : Bool) : AlertKept s (s.lineLockLoss inFrame) := by
  unfold State.lineLockLoss
  dsimp only
  split
  · split
    · exact (State.raise_alertKept _ _).after rfl
    · exact .of_au rfl
  · exact .refl s

/-! ### Commands -/

theorem State.lateCut_alertKept (s : State) (x : Nat) (est : Bool) : AlertKept s (s.lateCut x est) := by
  unfold State.lateCut State.flagLate
  refine AlertKept.trans ?_ (State.walk_alertKept _ _ _ _)
  refine AlertKept.trans ?_ (State.applyCut_alertKept _ _ _)
  exact ((State.raise_alertKept _ .markLate).after rfl).trans (.of_au rfl)

theorem State.deliverMark_alertKept (s : State) (m : Mark) : AlertKept s (s.deliverMark m).1 := by
  unfold State.deliverMark State.handLate
  split
  · split
    · split
      · split
        · exact s.lateCut_alertKept _ _
        · exact .refl s
      · exact .refl s
    · exact ((State.raise_alertKept _ .markLate).trans (State.applyZone_alertKept _ _ _)).after rfl
  · split
    · exact .refl s
    · split
      · exact (State.raise_alertKept _ _).after rfl
      · exact .of_au rfl

theorem State.answerMark_alertKept (s : State) (look : Nat × Bool) (formed : Nat) (m : Mark) :
    AlertKept s (s.answerMark look formed m).st := s.deliverMark_alertKept m

theorem State.ramStop_alertKept (s : State) (a n : Nat) : AlertKept s (s.ramStop a n).st := by
  unfold State.ramStop
  dsimp only
  split
  case h_1 => exact .refl s
  case h_2 => split <;> exact .of_au rfl
  all_goals
    split
    · exact .refl s
    · exact (State.answerMark_alertKept _ _ _ _).after rfl

theorem State.ramStart_alertKept (s : State) (a n b : Nat) : AlertKept s (s.ramStart a n b).st := by
  unfold State.ramStart
  dsimp only
  split
  case h_1 => exact .refl s
  case h_2 => split <;> exact .of_au rfl
  all_goals
    split
    · exact .refl s
    · split
      · split
        · exact .of_au rfl
        · exact (State.answerMark_alertKept _ _ _ _).after rfl
      · exact .of_au rfl

theorem State.cutNotice_alertKept (s : State) (a n : Nat) : AlertKept s (s.cutNotice a n).st := by
  unfold State.cutNotice
  dsimp only
  split
  case h_1 => exact .refl s
  case h_2 => exact .refl s
  all_goals exact s.answerMark_alertKept _ _ _

theorem State.setHeads_alertKept (s : State) (e t m r : Nat) : AlertKept s (s.setHeads e t m r).st := by
  unfold State.setHeads
  split
  · exact .refl s
  · split
    · exact .refl s
    · exact (State.settleSections_alertKept _).after rfl

/-- A commit keeps the pending frame but for the flags that the close of the open piece raises (R135, R145). -/
theorem State.commit_alertKept (s : State) (c : Commit) : AlertKept s (s.commit c) := by
  rw [State.commit_eq]
  exact (s.closePiece_alertKept .dieEnd s.pt.settled).trans (.of_notices rfl)

theorem AlertKept.of_switch {s t : State} (h : t = s.raise .switchFailed ∨ ∃ c, t = s.commit c) : AlertKept s t := by
  rcases h with rfl | ⟨c, rfl⟩
  · exact (State.raise_alertKept _ _).after rfl
  · exact s.commit_alertKept c

theorem State.ackAlerts_alertKept (s : State) (mask : FlagSet) : AlertKept s (s.ackAlerts mask).st := by
  refine AlertKept.trans (t := s.setAu (s.au.ack mask)) ⟨fun hs => hs.ack mask⟩ ?_
  simp only [State.ackAlerts, State.reloadBurst, State.taken]
  split <;> exact .of_au rfl

theorem State.setMatch_alertKept (s : State) (action coord : Nat) : AlertKept s (s.setMatch action coord).st := by
  unfold State.setMatch
  (repeat' split) <;> exact .of_notices rfl

/-- The commands of the slots, the directory and the engine states leave the Alert Unit; of the others ACK_ALERTS and
SET_NOTICES take flags out of the pending frame (R149), and RESET_ENGINE withdraws it (R145). -/
theorem State.runCommand_alertKept (s : State) (c : Command) (a : Nat) (p : List Byte) :
    AlertKept s (s.runCommand c a p).st := by
  by_cases hc : reachesContext c = true
  · obtain ⟨x, hx⟩ := s.runCommand_context hc a p
    rw [hx]
    exact .of_au rfl
  · cases c
    case identify => exact .refl s
    case sense => exact .refl s
    case getStatus => exact .refl s
    case setGeometry =>
      simp only [State.runCommand, State.setGeometry]
      (repeat' split) <;> exact .of_au rfl
    case setHeads => exact s.setHeads_alertKept _ _ _ _
    case setHeadCal =>
      simp only [State.runCommand, State.setHeadCal]
      (repeat' split) <;> exact .of_au rfl
    case dieChange => exact .of_switch (s.dieChange_st _)
    case revert => exact .of_switch s.revertSwitch_st
    case noteRamStop => exact s.ramStop_alertKept _ _
    case noteRamStart => exact s.ramStart_alertKept _ _ _
    case noteCut => exact s.cutNotice_alertKept _ _
    case fetchFirst =>
      simp only [State.runCommand, State.fetchFirst]
      split <;> exact .of_au rfl
    case fetchNext =>
      simp only [State.runCommand, State.fetchNext]
      (repeat' split) <;> exact .of_au rfl
    case setFetchPointer =>
      simp only [State.runCommand, State.setFetchPointer]
      (repeat' split) <;> exact .of_au rfl
    case release =>
      simp only [State.runCommand, State.release]
      (repeat' split) <;> exact .of_au rfl
    case setTrace => exact .of_au rfl
    case setNotices => exact ⟨fun hs => hs.setEnable _⟩
    case ackAlerts => exact s.ackAlerts_alertKept _
    case setMatch => exact s.setMatch_alertKept _ _
    case resetEngine => exact .of_none rfl
    all_goals exact absurd rfl hc

/-! ### The end of a step (R172, R180) -/

theorem State.answerFrame_alertKept (s : State) (f : CmdFrame) : AlertKept s (s.answerFrame f).st := by
  unfold State.answerFrame
  split
  · exact .refl s
  · split
    · exact s.runCommand_alertKept _ _ _
    · exact .refl s

theorem State.takeFrame_alertKept (s : State) : AlertKept s s.takeFrame := by
  unfold State.takeFrame
  split
  · rename_i f rest _ _
    have hanswer := (s.setLp { s.lp with queue := rest }).answerFrame_alertKept f
    exact (hanswer.after (s := s) rfl).trans (.of_au rfl)
  · exact .refl s

/-- A pending frame that is started is no longer pending (R148). -/
theorem State.transmit_alertKept (s : State) : AlertKept s s.transmit := by
  unfold State.transmit
  split
  · exact .refl s
  · split
    · exact .of_au rfl
    · exact .of_none rfl
    · exact .of_au rfl
    · exact .refl s

theorem State.settle_alertKept (s : State) : AlertKept s s.settle :=
  (s.takeFrame_alertKept.trans (State.transmit_alertKept _)).trans (State.takeFrame_alertKept _)

/-! ### The time base -/

theorem State.compilationDone_alertKept (s : State) : AlertKept s s.compilationDone := by
  unfold State.compilationDone
  dsimp only
  split
  · refine AlertKept.trans ?_ ((State.raise_alertKept _ _).after rfl)
    exact ((State.openPiece_alertKept _ _ _).trans (State.advance_alertKept _)).after rfl
  · exact .refl s

theorem State.fire_alertKept (s : State) (t : Nat) (d : Due) : AlertKept s (s.fire t d) := by
  cases d with
  | sample => exact .of_au rfl
  | spacing => exact .of_au rfl
  | timeout seq => exact (State.cascade_alertKept _).after rfl
  | compilation => exact (State.compilationDone_alertKept _).after rfl

theorem State.runTimers_alertKept : ∀ (n : Nat) (s : State) (limit : Nat), AlertKept s (State.runTimers n s limit)
  | 0, s, _ => .refl s
  | n + 1, s, limit => by
    unfold State.runTimers
    split
    · exact .refl s
    · exact ((s.fire_alertKept _ _).trans (State.settle_alertKept _)).trans (State.runTimers_alertKept n _ limit)

theorem State.driven_alertKept (s : State) (t : Nat) (d : Due) : AlertKept s (s.driven t d) :=
  (State.runTimers_alertKept _ s t).trans (State.fire_alertKept _ t d)

theorem State.spacingRow_alertKept (s : State) : AlertKept s s.spacingRow := by
  unfold State.spacingRow
  split
  · exact s.driven_alertKept _ _
  · exact .refl s

theorem State.timeoutRow_alertKept (s : State) (seq : Seq) : AlertKept s (s.timeoutRow seq) := by
  unfold State.timeoutRow
  split
  · exact s.driven_alertKept _ _
  · exact .refl s

theorem State.tick_alertKept (s : State) : AlertKept s s.tick := by
  unfold State.tick
  split
  · exact .refl s
  · exact (State.runTimers_alertKept _ s _).trans (.of_au rfl)

theorem State.hardReset_alertKept (s : State) (n : Nat) : AlertKept s (s.hardReset n) := by
  unfold State.hardReset
  split
  · exact .refl s
  · exact .of_none rfl

/-! ### Every step -/

theorem event_alertKept {f : State → State} {s : State} (h : AlertKept s (f s)) : NextIn AlertKept s (event f s) := by
  refine ⟨_, rfl, ?_⟩
  split
  · exact .refl s
  · exact h.trans (State.settle_alertKept _)

theorem exec_alertKept (i : Instr) (s : State) : NextIn AlertKept s (exec i s) := by
  cases i
  case wheelCount a b => exact event_alertKept (f := (·.wheel a b)) (s.wheel_alertKept a b)
  case sampleTick => exact event_alertKept (f := State.sampleTick) (s.driven_alertKept _ _)
  case spacingTimerExpiry => exact event_alertKept (f := State.spacingRow) s.spacingRow_alertKept
  case assemblyTimeoutExpiry seq => exact event_alertKept (f := (·.timeoutRow seq)) (s.timeoutRow_alertKept seq)
  case sectionFrameReceived h run =>
    exact event_alertKept (f := (·.sectionFrameEnds h run)) (s.headHears_alertKept h _ _ run)
  case headLockLoss h => exact event_alertKept (f := (·.headLockLoss h)) (s.headLockLoss_alertKept h)
  case headSymbolError h inFrame run sym =>
    exact event_alertKept (f := (·.headSymbolError h inFrame run sym)) (s.headHears_alertKept h _ _ _)
  case sectionEvaluation => exact event_alertKept (f := State.evaluateNext) s.evaluateNext_alertKept
  case sectionApplication => exact event_alertKept (f := State.applySection) s.applySection_alertKept
  case compilationComplete => exact event_alertKept (f := State.compilationDone) s.compilationDone_alertKept
  case lineFrameReceived run => exact event_alertKept (f := (·.lineFrameEnds run)) (s.lineHears_alertKept _ _ run)
  case lineLockLoss inFrame => exact event_alertKept (f := (·.lineLockLoss inFrame)) (s.lineLockLoss_alertKept inFrame)
  case lineSymbolError inFrame run sym =>
    exact event_alertKept (f := (·.lineSymbolError inFrame run sym)) (s.lineHears_alertKept _ _ _)
  case transmitFrameEnd => exact event_alertKept (f := State.frameEnd) (.of_au rfl)
  case hardReset n => exact ⟨_, rfl, s.hardReset_alertKept n⟩
  case hardResetRelease => exact ⟨_, rfl, .of_au rfl⟩
  case headLockGain h => exact event_alertKept (f := (·.headLockGain h)) (s.headLockGain_alertKept h)
  case lineLockGain => exact event_alertKept (f := State.lineLockGain) (.of_au rfl)
  all_goals exact event_alertKept (f := (·.goodCommand _ _ _)) (s.goodCommand_alertKept _ _ _)

theorem step_alertKept {s t : State} (h : step s = .next t) : AlertKept s t := by
  unfold Machine.step at h
  split at h
  · rename_i c rest _
    obtain ⟨u, hu, hkept⟩ := exec_alertKept c (s.setPending rest)
    rw [hu] at h
    cases h
    exact hkept.after rfl
  · cases h
    exact s.tick_alertKept

/-- Settles O8: a step lets flags rise one by one, acknowledges or disables them, or ends the pending frame. -/
theorem alertLawKept : Obligations.AlertLawKept := fun s t hs hstep =>
  t.alertSound_iff.2 ((step_alertKept hstep).sound (s.alertSound_iff.1 hs))

end Sys2Proof.Machine
end

section
/-! ACK_ALERTS, SET_NOTICES and SET_MATCH (R126, R149 to R152, R154). -/

namespace Sys2Proof.Machine

/-- The flags outside the withdrawn set are what is left of a pending frame (R149). -/
theorem withdraw_eq (newly : Option FlagSet) (off : FlagSet) :
    withdraw newly off = newly.bind fun n => if n &&& ~~~off = 0 then none else some (n &&& ~~~off) := by
  cases newly <;> rfl

/-- Clearing BURST clears the burst counter (R126, R151). -/
theorem State.reloadBurst_eq (s : State) (cleared : FlagSet) : s.reloadBurst cleared =
    s.setPt { s.pt with burst := if FlagSet.has cleared .burst then 0 else s.pt.burst } := by
  unfold State.reloadBurst
  split <;> rfl

theorem State.ackAlerts_eq (s : State) (mask : FlagSet) :
    let cleared := s.au.flags &&& mask
    let flags := s.au.flags &&& ~~~mask
    s.ackAlerts mask =
      ⟨(s.setAu { s.au with
          flags := flags
          newly := s.au.newly.bind fun n => if n &&& ~~~cleared = 0 then none else some (n &&& ~~~cleared) }).setPt
          { s.pt with burst := if FlagSet.has cleared .burst then 0 else s.pt.burst },
        if cleared = 0 then .noEffect else .ok, 0, .acked cleared flags⟩ := by
  simp only [State.ackAlerts, State.taken, State.reloadBurst_eq, AlertUnit.ack, withdraw_eq]
  rfl

theorem State.setNotices_eq (s : State) (enable : FlagSet) : s.setNotices enable =
    ⟨s.setAu { s.au with
        enable := enable
        newly := s.au.newly.bind fun n => if n &&& enable = 0 then none else some (n &&& enable) },
      .ok, 0, .notices enable s.au.flags⟩ := by
  simp only [State.setNotices, State.taken, AlertUnit.setEnable, withdraw_eq, BitVec.not_not]
  rfl

/-- SET_MATCH disarms for action 0, arms above the settled coordinate for action 1, and refuses every other action
(R154). -/
theorem State.setMatch_eq (s : State) (action coord : Nat) : s.setMatch action coord =
    if action = 0 then
      (if s.au.matchAt = none then ⟨s, .noEffect, 0, .matchState none s.pt.settled⟩
       else ⟨s.setAu { s.au with matchAt := none }, .ok, 0, .matchState none s.pt.settled⟩)
    else if action = 1 then
      (if coord ≤ s.pt.settled then ⟨s, .badValue, 1, .matchState s.au.matchAt s.pt.settled⟩
       else ⟨s.setAu { s.au with matchAt := some coord }, .ok, 0, .matchState (some coord) s.pt.settled⟩)
    else ⟨s, .badValue, 0, .matchState s.au.matchAt s.pt.settled⟩ := by
  unfold State.setMatch
  split
  · cases hmatch : s.au.matchAt <;> simp [State.taken, State.matchItems, hmatch]
  · simp [State.taken, State.matchItems]
  · rename_i hdisarm harm
    rw [if_neg hdisarm, if_neg harm]
    rfl

/-- Settles O58: each command's answer, read from the bytes of its payload. -/
theorem alertsCommanded : Obligations.AlertsCommanded := by
  intro tag action set coord s hs hcoord p m left cleared flags
  have hset : BitVec.ofNat 16 (natAt p 0 2) = set := by
    rw [natAt_whole (show set.toNat < 256 ^ 2 from set.isLt), BitVec.ofNat_toNat, BitVec.setWidth_eq]
  have haction : natAt m 0 1 = action.toNat := by simp [m, natAt, leNat]
  have hm : natAt m 1 4 = coord := (natAt_append_add [action] _ 0 4).trans (natAt_whole hcoord)
  refine ⟨exec_answered (c := .ackAlerts) hs rfl ?_, exec_answered (c := .setNotices) hs rfl ?_,
    exec_answered (c := .setMatch) hs rfl ?_⟩
  · rw [State.runCommand, hset, State.ackAlerts_eq]
  · rw [State.runCommand, hset, State.setNotices_eq]
  · rw [State.runCommand, haction, hm, State.setMatch_eq]
    have hzero : action.toNat = 0 ↔ action = 0 := BitVec.toNat_eq (y := 0#8).symm
    have hone : action.toNat = 1 ↔ action = 1 := BitVec.toNat_eq (y := 1#8).symm
    simp only [hzero, hone]

end Sys2Proof.Machine
end

section
/-! TRANSMIT_FRAME_END (R148, R167, R172, R180): which source the transmitter starts, and the line code of a started frame
(R187). -/

namespace Sys2Proof.Machine

/-! ### The idle transmitter starts a source (R180) -/

section
variable {s : State} (htx : s.lp.tx = none)
include htx

theorem State.transmit_reply {r : Reply} (hslot : s.lp.slot = some r) : s.transmit = s.setLp { s.lp with
    slot := none, tx := some (.reply r), enc := s.lp.enc.send 4 (OutFrame.wire (.reply r)) } := by
  simp only [State.transmit, htx, hslot]
  rfl

/-- The pending alert frame, with its contents at its start (R148). -/
theorem State.transmit_alert {n : FlagSet} (hslot : s.lp.slot = none) (hnewly : s.au.newly = some n) :
    s.transmit = (s.startFrame (.alert (s.alertBody n))).setAu
      { s.au with newly := none, number := s.au.number + 1 } := by
  simp only [State.transmit, htx, hslot, hnewly]

theorem State.transmit_trace {b : Trace} (hslot : s.lp.slot = none) (hnewly : s.au.newly = none)
    (htrace : s.lp.traceBuf = some b) : s.transmit = s.setLp { s.lp with
      tx := some (.trace s.lp.replaced b), traceBuf := none, replaced := 0
      enc := s.lp.enc.send 4 (OutFrame.wire (.trace s.lp.replaced b)) } := by
  simp only [State.transmit, htx, hslot, hnewly, htrace]
  rfl

theorem State.transmit_nothing (hslot : s.lp.slot = none) (hnewly : s.au.newly = none)
    (htrace : s.lp.traceBuf = none) : s.transmit = s := by
  simp only [State.transmit, htx, hslot, hnewly, htrace]

end

/-! ### The decoder takes the next frame (R172) -/

theorem State.takeFrame_next {s : State} {f : CmdFrame} {rest : List CmdFrame} (hslot : s.lp.slot = none)
    (hqueue : s.lp.queue = f :: rest) :
    s.takeFrame = ((s.setLp { s.lp with queue := rest }).answerFrame f).reply f := by
  simp only [State.takeFrame, hslot, hqueue]

/-- The end of a frame being sent: the transmitter chooses, then the decoder. -/
theorem exec_transmitFrameEnd {s : State} (hreset : s.inReset = false) (hqueue : s.lp.slot = none → s.lp.queue = []) :
    exec .transmitFrameEnd s = .next s.frameEnd.transmit.takeFrame := by
  change event State.frameEnd s = _
  rw [event, hreset, if_neg Bool.false_ne_true, State.settle, State.takeFrame_idle s.frameEnd hqueue]

/-- With no frame queued, what the transmitter has started is all. -/
theorem exec_transmitFrameEnd_alone {s t : State} (hreset : s.inReset = false) (hqueue : s.lp.queue = [])
    (ht : s.frameEnd.transmit = t) : exec .transmitFrameEnd s = .next t := by
  have hempty : s.frameEnd.transmit.lp.queue = [] := (State.transmit_queue _).trans hqueue
  rw [exec_transmitFrameEnd hreset fun _ => hqueue, State.takeFrame_idle _ fun _ => hempty, ht]

/-! ### The symbols of a frame (R187) -/

theorem idleSymbol_eq (rd : Disparity) :
    idleSymbol rd = if rd = .minus then 0b0011111010#10 else 0b1100000101#10 := by cases rd <;> rfl

theorem frameStartSymbol_eq (rd : Disparity) :
    frameStartSymbol rd = if rd = .minus then 0b1101101000#10 else 0b0010010111#10 := by cases rd <;> rfl

/-- Each idle symbol stands at the disparity that those before it leave. -/
theorem idleSymbols_getElem? {n k : Nat} (hk : k < n) (rd : Disparity) :
    (idleSymbols n rd)[k]? = some (idleSymbol (disparityOver ((idleSymbols n rd).take k) rd)) := by
  induction n generalizing k rd with
  | zero => omega
  | succ n ih =>
    cases k with
    | zero => rfl
    | succ k => exact ih (by omega) _

/-- Each data symbol stands at the disparity that those before it leave. -/
theorem encodeBytes_getElem? {bs : List Byte} {k : Nat} {b : Byte} (hb : bs[k]? = some b) (rd : Disparity) :
    (encodeBytes rd bs)[k]? = some (encodeData (disparityOver ((encodeBytes rd bs).take k) rd) b).1 := by
  induction bs generalizing k rd with
  | nil => cases hb
  | cons c bs ih =>
    cases k with
    | zero =>
      obtain rfl : c = b := Option.some.inj hb
      rfl
    | succ k =>
      have htail := ih (rd := (encodeData rd c).2) (k := k) hb
      rw [encodeData_disparity] at htail
      simpa [encodeBytes, encodeData_disparity] using htail

section
variable (e : Encoder) (link : Nat) (bs : List Byte)

/-- The running disparity in front of the symbol at index `k` of a started frame. -/
def Encoder.before (k : Nat) : Disparity := disparityOver ((e.send link bs).symbols.take k) e.rd

theorem Encoder.send_symbols : (e.send link bs).symbols = idleSymbols (Config.idleRun link e.started) e.rd ++
    frameSymbols (disparityOver (idleSymbols (Config.idleRun link e.started) e.rd) e.rd) bs := rfl

theorem Encoder.send_idle {k : Nat} (hk : k < Config.idleRun link e.started) :
    (e.send link bs).symbols[k]? = some (idleSymbol (e.before link bs k)) := by
  have hlen : k < (idleSymbols (Config.idleRun link e.started) e.rd).length := by rwa [idleSymbols_length]
  rw [Encoder.before, Encoder.send_symbols, List.getElem?_append_left hlen, List.take_append_of_le_length hlen.le]
  exact idleSymbols_getElem? hk e.rd

theorem Encoder.send_start : (e.send link bs).symbols[Config.idleRun link e.started]? =
    some (frameStartSymbol (e.before link bs (Config.idleRun link e.started))) := by
  rw [Encoder.before, Encoder.send_symbols, List.getElem?_append_right (by simp), List.take_left' (by simp)]
  simp [frameSymbols]

theorem Encoder.send_data {k : Nat} {b : Byte} (hb : bs[k]? = some b) :
    (e.send link bs).symbols[Config.idleRun link e.started + 1 + k]? =
      some (encodeData (e.before link bs (Config.idleRun link e.started + 1 + k)) b).1 := by
  have hindex : Config.idleRun link e.started + 1 + k =
      (idleSymbols (Config.idleRun link e.started) e.rd).length + (k + 1) := by
    rw [idleSymbols_length]
    omega
  rw [Encoder.before, Encoder.send_symbols, hindex, List.getElem?_append_right (Nat.le_add_right _ _),
    List.take_length_add_append, disparityOver_append, Nat.add_sub_cancel_left]
  exact encodeBytes_getElem? hb _

/-- No symbol of a started frame is a symbol error at the disparity that those before it leave. -/
theorem Encoder.send_valid {k : Nat} {x : Symbol} (hx : (e.send link bs).symbols[k]? = some x) :
    isSymbolError (e.before link bs k) x = false := by
  rcases lt_trichotomy k (Config.idleRun link e.started) with hk | rfl | hk
  · rw [e.send_idle link bs hk] at hx
    obtain rfl := Option.some.inj hx
    simp [isSymbolError]
  · rw [e.send_start link bs] at hx
    obtain rfl := Option.some.inj hx
    simp [isSymbolError]
  · obtain ⟨j, rfl⟩ := Nat.exists_eq_add_of_le (Nat.succ_le_of_lt hk)
    obtain ⟨hlen, -⟩ := List.getElem?_eq_some_iff.1 hx
    have hj : j < bs.length := by
      rw [Encoder.send_length] at hlen
      omega
    rw [e.send_data link bs (List.getElem?_eq_getElem hj)] at hx
    obtain rfl := Option.some.inj hx
    simp [isSymbolError]

end

/-- Settles O19: the transmitter takes the first source that is ready, and the decoder a frame behind a reply. -/
theorem transmitterOrder : Obligations.TransmitterOrder := by
  intro s hreset hqueue
  have hidle : s.frameEnd.lp.tx = none := rfl
  refine ⟨fun r hslot hnone => ?_, fun r f rest hslot hframes => ?_, fun n hslot hnewly => ?_,
    fun b hslot hnewly htrace => ?_, fun hslot hnewly htrace => ?_, fun e link bs => ?_⟩
  · exact exec_transmitFrameEnd_alone hreset hnone (State.transmit_reply hidle hslot)
  · rw [exec_transmitFrameEnd hreset hqueue, State.transmit_reply hidle hslot]
    exact congrArg Host.Outcome.next (State.takeFrame_next rfl hframes)
  · exact exec_transmitFrameEnd_alone hreset (hqueue hslot) (State.transmit_alert hidle hslot hnewly)
  · exact exec_transmitFrameEnd_alone hreset (hqueue hslot) (State.transmit_trace hidle hslot hnewly htrace)
  · exact exec_transmitFrameEnd_alone hreset (hqueue hslot) (State.transmit_nothing hidle hslot hnewly htrace)
  · intro sent n before
    refine ⟨(e.send_length link bs).trans (by omega), fun k hk => ?_, ?_, fun k b hb => e.send_data link bs hb,
      fun k x hx => e.send_valid link bs hx, rfl, rfl⟩
    · exact (e.send_idle link bs hk).trans (congrArg some (idleSymbol_eq _))
    · exact (e.send_start link bs).trans (congrArg some (frameStartSymbol_eq _))

end Sys2Proof.Machine
end

section
/-! FETCH_FIRST, FETCH_NEXT, SET_FETCH_POINTER, RELEASE and SET_TRACE (R160 to R164, R166, R186): the report that a
fetch describes, and the answer of each command by the oldest report. -/

namespace Sys2Proof.Machine

/-! ### What a fetch tells of a report (R122, R162, R186) -/

theorem Report.countVerdict_eq (r : Report) (v : Verdict) :
    r.countVerdict v = (r.bins.filter fun b => decide (b.verdict = some v)).length := by
  rw [Report.countVerdict, List.countP_eq_length_filter]
  simp only [beq_eq_decide]

/-- The header of a report with a first bin (R122, R186). -/
theorem Report.header_cons {r : Report} {b : Bin} {more : List Bin} (h : r.bins = b :: more) :
    r.header = {
      number := r.number, slot := r.slot, reason := r.reason, die := r.die, flags := r.flags, gauges := b.gauges.length
      bins := r.bins.length, start := r.start, stop := r.stop, firstBillet := b.billet
      lastBillet := (more.getLast?.getD b).billet, accept := r.countVerdict .accept
      acceptWarn := r.countVerdict .acceptWarn, ungauged := r.countVerdict .ungauged
      rejectDim := r.countVerdict .rejectDim, rejectZone := r.countVerdict .rejectZone } := by
  simp [Report.header, Report.gaugeCount, h, List.getLast?_cons]

theorem Report.fetched_cons {r : Report} {b : Bin} {more : List Bin} (h : r.bins = b :: more) (k : Nat) :
    r.fetched k = (r.bins.drop k).take (min 16 (976 / (22 + 6 * b.gauges.length))) := by
  simp only [Report.fetched, Report.batch, Report.gaugeCount, h]

/-- No bin stands at the end of a report (R161). -/
theorem Report.fetched_end (r : Report) : r.fetched r.bins.length = [] := by
  rw [Report.fetched, List.drop_length, List.take_nil]

/-- The items of a fetch of a report from a bin index (R162). -/
def State.fetchItems (s : State) (r : Report) (first : Nat) : Items :=
  .fetch {
    header := r.header, first := first, returned := (r.fetched first).length, lastDropped := s.rq.lastDropped
    bins := r.fetched first }

theorem State.fetchFrom_eq (s : State) (r : Report) (first : Nat) (code : ResultCode) :
    s.fetchFrom r first code =
      ⟨s.setRq { s.rq with fetchPtr := first + (r.fetched first).length }, code, 0, s.fetchItems r first⟩ := rfl

/-! ### The commands by the oldest report -/

section
variable {s : State}

section
variable (h : s.rq.reports = [])
include h

theorem State.fetchFirst_empty : s.fetchFirst = ⟨s, .empty, 0, .summaryOnly⟩ := by rw [State.fetchFirst, h]; rfl

theorem State.fetchNext_empty : s.fetchNext = ⟨s, .empty, 0, .summaryOnly⟩ := by rw [State.fetchNext, h]; rfl

/-- Without a report the pointer command carries the status summary alone (log 13). -/
theorem State.setFetchPointer_empty (index : Nat) : s.setFetchPointer index = ⟨s, .empty, 0, .summaryOnly⟩ := by
  rw [State.setFetchPointer, h]; rfl

theorem State.release_empty (piece : Nat) :
    s.release piece = ⟨s, .noEffect, 0, .released none 0 none s.rq.lastDropped⟩ := by
  rw [State.release, h]; rfl

end

section
variable {r : Report} {rest : List Report} (h : s.rq.reports = r :: rest)
include h

theorem State.fetchFirst_oldest : s.fetchFirst =
    ⟨s.setRq { s.rq with fetchPtr := (r.fetched 0).length }, .ok, 0, s.fetchItems r 0⟩ := by
  simp only [State.fetchFirst, h, State.fetchFrom_eq, Nat.zero_add]

theorem State.fetchNext_before_end (hptr : s.rq.fetchPtr ≠ r.bins.length) : s.fetchNext =
    ⟨s.setRq { s.rq with fetchPtr := s.rq.fetchPtr + (r.fetched s.rq.fetchPtr).length }, .ok, 0,
      s.fetchItems r s.rq.fetchPtr⟩ := by
  simp only [State.fetchNext, h, if_neg hptr, State.fetchFrom_eq]

/-- At the end of the report the pointer moves by no bins, so the state stays (R161). -/
theorem State.fetchNext_at_end (hptr : s.rq.fetchPtr = r.bins.length) :
    s.fetchNext = ⟨s, .noEffect, 0, s.fetchItems r s.rq.fetchPtr⟩ := by
  have hnone : (r.fetched s.rq.fetchPtr).length = 0 := by rw [hptr, r.fetched_end, List.length_nil]
  rw [State.fetchNext, h]
  simp only [if_pos hptr, State.fetchFrom_eq, hnone, Nat.add_zero]
  rfl

theorem State.setFetchPointer_within {index : Nat} (hle : index ≤ r.bins.length) : s.setFetchPointer index =
    ⟨s.setRq { s.rq with fetchPtr := index }, .ok, 0, .fetchPointer r.number r.bins.length index⟩ := by
  simp only [State.setFetchPointer, h, if_neg hle.not_gt, State.taken]

theorem State.setFetchPointer_beyond {index : Nat} (hlt : r.bins.length < index) : s.setFetchPointer index =
    ⟨s, .badValue, 1, .fetchPointer r.number r.bins.length s.rq.fetchPtr⟩ := by
  simp only [State.setFetchPointer, h, if_pos hlt]

/-- The oldest report goes for its own number or for 0, and its records return to the pool (R164). -/
theorem State.release_oldest {piece : Nat} (hpiece : piece = 0 ∨ piece = r.number) : s.release piece =
    ⟨(s.setRq { s.rq with reports := rest, fetchPtr := 0 }).setPt { s.pt with free := s.pt.free + r.bins.length },
      .ok, 0, .released (some r.number) r.bins.length (rest.head?.map Report.number) s.rq.lastDropped⟩ := by
  have hnames : ¬(piece ≠ 0 ∧ piece ≠ r.number) := by tauto
  simp only [State.release, h, if_neg hnames]
  rfl

theorem State.release_other {piece : Nat} (hzero : piece ≠ 0) (hother : piece ≠ r.number) :
    s.release piece = ⟨s, .badValue, 1, .released none 0 (some r.number) s.rq.lastDropped⟩ := by
  simp only [State.release, h, if_pos (And.intro hzero hother)]

end
end

/-- SET_TRACE takes N and starts the counter anew; 0 empties the trace buffer too (R166). -/
theorem State.setTrace_eq (s : State) (n : Nat) : s.setTrace n =
    ⟨s.setLp { s.lp with
        traceN := n, decim := 0, traceBuf := if n = 0 then none else s.lp.traceBuf
        replaced := if n = 0 then 0 else s.lp.replaced }, .ok, 0, .traceN n⟩ := by
  unfold State.setTrace
  by_cases hn : n = 0
  · simp only [if_pos hn, State.taken]
  · simp only [if_neg hn, State.taken]

/-- Settles O56: each command by the oldest report, the pointer against the number of its bins. -/
theorem reportsFetched : Obligations.ReportsFetched := by
  intro tag index s hs hindex p
  have hread : natAt p 0 2 = index := natAt_whole hindex
  have hfirst {a : Answer} (ha : s.fetchFirst = a) : exec (.fetchFirst tag []) s =
      .next (s.replyTo .fetchFirst tag [] a) := exec_answered (c := .fetchFirst) hs rfl ha
  have hnext {a : Answer} (ha : s.fetchNext = a) : exec (.fetchNext tag []) s =
      .next (s.replyTo .fetchNext tag [] a) := exec_answered (c := .fetchNext) hs rfl ha
  have hpoint {a : Answer} (ha : s.setFetchPointer index = a) : exec (.setFetchPointer tag p) s =
      .next (s.replyTo .setFetchPointer tag p a) :=
    exec_answered (c := .setFetchPointer) hs rfl (by rw [State.runCommand, hread, ha])
  refine ⟨fun h => ⟨hfirst (State.fetchFirst_empty h), hnext (State.fetchNext_empty h),
    hpoint (State.setFetchPointer_empty h index)⟩, ?_⟩
  intro r rest b more h hbins g fetched count header items
  have hfetched : r.fetched = fetched := funext (r.fetched_cons hbins)
  have hitems : s.fetchItems r = items := by
    funext k
    simp only [State.fetchItems, hfetched, r.header_cons hbins, r.countVerdict_eq]
    rfl
  rw [← hitems, ← hfetched]
  exact ⟨hfirst (State.fetchFirst_oldest h), fun hptr => hnext (State.fetchNext_before_end h hptr),
    fun hptr => hnext (State.fetchNext_at_end h hptr), fun hle => hpoint (State.setFetchPointer_within h hle),
    fun hlt => hpoint (State.setFetchPointer_beyond h hlt)⟩

/-- Settles O57: RELEASE by the oldest report and the number it is given, then SET_TRACE. -/
theorem releasedAndTraced : Obligations.ReleasedAndTraced := by
  intro tag n piece s hs hpiece p answers
  have hread : natAt p 0 2 = piece := natAt_whole hpiece
  have hrelease {a : Answer} (ha : s.release piece = a) : answers a :=
    exec_answered (c := .release) hs rfl (by rw [State.runCommand, hread, ha])
  refine ⟨fun h => hrelease (State.release_empty h piece),
    fun r rest h hnames => hrelease (State.release_oldest h hnames),
    fun r rest h hzero hother => hrelease (State.release_other h hzero hother),
    exec_answered (c := .setTrace) hs rfl ?_⟩
  have hzero : n.toNat = 0 ↔ n = 0 := BitVec.toNat_eq (y := 0#8).symm
  rw [State.runCommand, natAt_one, State.setTrace_eq]
  simp only [List.getD_cons_zero, hzero]

end Sys2Proof.Machine
end

section
/-! The law of the Line Port (R171, R172, R180): the end of a step brings it about wherever at most four frames are queued,
and no row queues a fifth, so every step keeps it. -/

namespace Sys2Proof.Machine

/-! ### The end of a step (R172, R180) -/

/-- A reply stands in its slot as soon as it is formed. -/
theorem Answer.reply_slot (a : Answer) (f : CmdFrame) : (a.reply f).lp.slot ≠ none := nofun

/-- What the decoder's turn does to the Line Port: it leaves the frame being sent, queues none, and leaves none queued
while the reply slot is empty. -/
structure DecoderTurn (s t : State) : Prop where
  tx : t.lp.tx = s.lp.tx
  room : t.lp.queue.length ≤ s.lp.queue.length
  taken : t.lp.slot = none → t.lp.queue = []

theorem State.takeFrame_turn (s : State) : DecoderTurn s s.takeFrame := by
  by_cases hidle : s.lp.slot = none → s.lp.queue = []
  · rw [s.takeFrame_idle hidle]
    exact ⟨rfl, le_rfl, hidle⟩
  · obtain ⟨hslot, hqueue⟩ := Classical.not_imp.1 hidle
    obtain ⟨f, rest, hframes⟩ := List.exists_cons_of_ne_nil hqueue
    have hline := (s.setLp { s.lp with queue := rest }).answerFrame_line f
    rw [State.takeFrame_next hslot hframes]
    refine ⟨hline.tx, ?_, fun h => absurd h (Answer.reply_slot _ f)⟩
    have hrest : (((s.setLp { s.lp with queue := rest }).answerFrame f).reply f).lp.queue = rest := hline.queue
    rw [hrest, hframes]
    exact Nat.le_succ _

/-- A transmitter that stays idle has no ready source, and has changed nothing (R180). -/
theorem State.transmit_stays_idle {s : State} (h : s.transmit.lp.tx = none) :
    s.transmit = s ∧ s.lp.slot = none ∧ s.au.newly = none ∧ s.lp.traceBuf = none := by
  cases htx : s.lp.tx with
  | some f =>
    rw [s.transmit_busy f htx, htx] at h
    cases h
  | none =>
    cases hslot : s.lp.slot with
    | some r =>
      rw [State.transmit_reply htx hslot] at h
      cases h
    | none =>
      cases hnewly : s.au.newly with
      | some n =>
        rw [State.transmit_alert htx hslot hnewly] at h
        cases h
      | none =>
        cases htrace : s.lp.traceBuf with
        | some b =>
          rw [State.transmit_trace htx hslot hnewly htrace] at h
          cases h
        | none => exact ⟨State.transmit_nothing htx hslot hnewly htrace, rfl, rfl, rfl⟩

/-- Whatever a step has brought about, its end leaves the Line Port sound, as long as at most four frames are queued. -/
theorem State.settle_lineSound {s : State} (h : s.lp.queue.length ≤ 4) : s.settle.LineSound := by
  let u := s.takeFrame.transmit
  have hfirst := s.takeFrame_turn
  have hlast := u.takeFrame_turn
  have hqueue : u.lp.queue = s.takeFrame.lp.queue := State.transmit_queue _
  refine ⟨(hlast.room.trans (hqueue ▸ hfirst.room)).trans h, hlast.taken, fun htx => ?_⟩
  obtain ⟨hsame, hslot, hnewly, htrace⟩ := State.transmit_stays_idle (s := s.takeFrame) (hlast.tx.symm.trans htx)
  have hend : s.settle = s.takeFrame := by
    change u.takeFrame = _
    rw [show u = s.takeFrame from hsame, State.takeFrame_idle _ hfirst.taken]
  rw [hend]
  exact ⟨hslot, hnewly, htrace⟩

/-! ### Rows beside the Line Port -/

theorem State.forwardCount_lp (s : State) : s.forwardCount.lp = s.lp := by
  unfold State.forwardCount
  split
  · rfl
  · split
    · rfl
    · dsimp only
      split
      · rfl
      · exact (State.liveChanged_lp _).1

theorem State.wheel_lp (s : State) (a b : Bool) : (s.wheel a b).lp = s.lp := by
  unfold State.wheel
  dsimp only
  split
  · rfl
  · exact State.forwardCount_lp _
  · rfl

theorem State.evaluateNext_lp (s : State) : s.evaluateNext.lp = s.lp := by
  unfold State.evaluateNext
  split <;> rfl

theorem State.headDown_lp (s : State) (h : Fin 4) (f : HeadFault) (lock : Bool) : (s.headDown h f lock).lp = s.lp := by
  unfold State.headDown
  dsimp only
  split
  · exact (State.settleSections_frame _).lp
  · rfl

theorem State.headFinds_lp (h : Fin 4) (s : State) (e : LinkEvent) : (State.headFinds h s e).lp = s.lp := by
  cases e with
  | symbolError => exact s.headDown_lp h _ _
  | frame bs =>
    simp only [State.headFinds, State.sectionFrame]
    split
    · rfl
    · exact (State.settleSections_frame _).lp

theorem State.headHears_lp (s : State) (h : Fin 4) (inFrame ended : Bool) (run : List Symbol) :
    (s.headHears h inFrame ended run).lp = s.lp := by
  unfold State.headHears
  dsimp only
  split
  · exact foldl_reading State.lp _ (State.headFinds_lp h) _ _
  · rfl

theorem State.headLockLoss_lp (s : State) (h : Fin 4) : (s.headLockLoss h).lp = s.lp := by
  unfold State.headLockLoss
  split
  · exact s.headDown_lp h _ _
  · rfl

theorem State.headLockGain_lp (s : State) (h : Fin 4) : (s.headLockGain h).lp = s.lp := by
  unfold State.headLockGain
  split <;> rfl

/-- An event of the time base. -/
theorem State.fire_lp (s : State) (t : Nat) (d : Due) : (s.fire t d).lp = s.lp := by
  cases d with
  | sample => rfl
  | spacing => rfl
  | timeout seq => exact (State.expireSlot_sectionFrame _ seq).lp
  | compilation =>
    obtain ⟨-, hlp, -⟩ := (s.timeTo t).compilationDone_blocks
    exact hlp

/-- A section counted reaches the trace of the Line Port alone (R167). -/
theorem State.applySection_queue (s : State) : s.applySection.lp.queue = s.lp.queue := by
  unfold State.applySection
  split
  · rfl
  · rename_i r rest _
    have hoffer (u : State) : (u.offerTrace r).lp.queue = u.lp.queue := by
      unfold State.offerTrace
      (repeat' split) <;> rfl
    have hcounted (u : State) : (u.sectionCounted r).lp.queue = u.lp.queue := by
      refine (hoffer _).trans (congrArg LinePort.queue ((State.countBurst_frame _ r).lp.trans ?_))
      split <;> rfl
    rw [State.applyResult_eq, (State.advance_frame _).lp, hcounted, (State.advanceTo_frame _ _).lp]
    rfl

/-! ### The rows of the line link (R170, R171) -/

/-- A fifth frame is not queued (R171). -/
theorem State.goodCommand_room {s : State} (h : s.lp.queue.length ≤ 4) (code tag : Byte) (p : List Byte) :
    (s.goodCommand code tag p).lp.queue.length ≤ 4 := by
  unfold State.goodCommand
  split
  · rename_i hroom
    simpa using hroom
  · exact h

theorem State.lineFinds_room {s : State} (h : s.lp.queue.length ≤ 4) (e : LinkEvent) :
    (s.lineFinds e).lp.queue.length ≤ 4 := by
  cases e with
  | symbolError => exact h
  | frame bs =>
    simp only [State.lineFinds, State.lineFrame]
    split
    · exact h
    · exact State.goodCommand_room h _ _ _

theorem State.lineHears_room {s : State} (h : s.lp.queue.length ≤ 4) (inFrame ended : Bool) (run : List Symbol) :
    (s.lineHears inFrame ended run).lp.queue.length ≤ 4 := by
  unfold State.lineHears
  dsimp only
  split
  · exact List.foldlRecOn (motive := fun t : State => t.lp.queue.length ≤ 4) _ State.lineFinds h
      fun t ht e _ => State.lineFinds_room ht e
  · exact h

theorem State.lineLockLoss_queue (s : State) (inFrame : Bool) : (s.lineLockLoss inFrame).lp.queue = s.lp.queue := by
  unfold State.lineLockLoss
  split
  · dsimp only
    split <;> rfl
  · rfl

/-! ### The time base (R31) -/

/-- Each event that the time base brings about ends like a step. -/
theorem State.runTimers_lineSound : ∀ (n : Nat) {s : State} (limit : Nat), s.LineSound →
    (State.runTimers n s limit).LineSound
  | 0, _, _, hs => hs
  | n + 1, s, limit, hs => by
    cases hnext : s.nextDue limit with
    | none => rwa [State.runTimers_none hnext]
    | some d =>
      obtain ⟨t, d⟩ := d
      obtain ⟨hroom, -⟩ := hs
      rw [State.runTimers_some hnext]
      exact State.runTimers_lineSound n limit (State.settle_lineSound (by rwa [State.fire_lp]))

section
variable {s : State} (hs : s.LineSound)
include hs

theorem State.driven_room (t : Nat) (d : Due) : (s.driven t d).lp.queue.length ≤ 4 := by
  obtain ⟨hroom, -⟩ : (s.upTo t).LineSound := State.runTimers_lineSound _ t hs
  rwa [State.driven, State.fire_lp]

theorem State.spacingRow_room : s.spacingRow.lp.queue.length ≤ 4 := by
  unfold State.spacingRow
  split
  · exact State.driven_room hs _ _
  · exact hs.1

theorem State.timeoutRow_room (seq : Seq) : (s.timeoutRow seq).lp.queue.length ≤ 4 := by
  unfold State.timeoutRow
  split
  · exact State.driven_room hs _ _
  · exact hs.1

theorem State.tick_lineSound : s.tick.LineSound := by
  unfold State.tick
  split
  · exact hs
  · exact State.runTimers_lineSound (s.timerBound (s.lt.time + 1 + 1)) (s.lt.time + 1 + 1) hs

/-! ### Every step -/

/-- A row whose effect leaves at most four frames queued. -/
theorem event_lineSound {f : State → State} (h : (f s).lp.queue.length ≤ 4) :
    ∃ t, event f s = .next t ∧ t.LineSound := by
  refine ⟨_, rfl, ?_⟩
  split
  · exact hs
  · exact State.settle_lineSound h

/-- A row whose effect leaves the Line Port. -/
theorem event_lineSound_of_lp {f : State → State} (h : (f s).lp = s.lp) : ∃ t, event f s = .next t ∧ t.LineSound :=
  event_lineSound hs (by rw [h]; exact hs.1)

theorem exec_lineSound (i : Instr) : ∃ t, exec i s = .next t ∧ t.LineSound := by
  have hroom : s.lp.queue.length ≤ 4 := hs.1
  cases i
  case wheelCount a b => exact event_lineSound_of_lp (f := (·.wheel a b)) hs (s.wheel_lp a b)
  case sampleTick => exact event_lineSound (f := State.sampleTick) hs (State.driven_room hs _ _)
  case spacingTimerExpiry => exact event_lineSound (f := State.spacingRow) hs (State.spacingRow_room hs)
  case assemblyTimeoutExpiry seq => exact event_lineSound (f := (·.timeoutRow seq)) hs (State.timeoutRow_room hs seq)
  case sectionFrameReceived h run =>
    exact event_lineSound_of_lp (f := (·.sectionFrameEnds h run)) hs (s.headHears_lp h _ _ run)
  case headLockLoss h => exact event_lineSound_of_lp (f := (·.headLockLoss h)) hs (s.headLockLoss_lp h)
  case headSymbolError h inFrame run sym =>
    exact event_lineSound_of_lp (f := (·.headSymbolError h inFrame run sym)) hs (s.headHears_lp h _ _ _)
  case sectionEvaluation => exact event_lineSound_of_lp (f := State.evaluateNext) hs s.evaluateNext_lp
  case sectionApplication =>
    exact event_lineSound (f := State.applySection) hs (s.applySection_queue ▸ hroom)
  case compilationComplete =>
    obtain ⟨-, hlp, -⟩ := s.compilationDone_blocks
    exact event_lineSound_of_lp (f := State.compilationDone) hs hlp
  case lineFrameReceived run => exact event_lineSound (f := (·.lineFrameEnds run)) hs (State.lineHears_room hroom _ _ run)
  case lineLockLoss inFrame =>
    exact event_lineSound (f := (·.lineLockLoss inFrame)) hs (s.lineLockLoss_queue inFrame ▸ hroom)
  case lineSymbolError inFrame run sym =>
    exact event_lineSound (f := (·.lineSymbolError inFrame run sym)) hs (State.lineHears_room hroom _ _ _)
  case transmitFrameEnd => exact event_lineSound (f := State.frameEnd) hs hroom
  case hardReset n =>
    refine ⟨_, rfl, ?_⟩
    unfold State.hardReset
    split
    · exact hs
    · exact State.reset_lineSound
  case hardResetRelease => exact ⟨_, rfl, hs⟩
  case headLockGain h => exact event_lineSound_of_lp (f := (·.headLockGain h)) hs (s.headLockGain_lp h)
  case lineLockGain => exact event_lineSound (f := State.lineLockGain) hs hroom
  all_goals exact event_lineSound (f := (·.goodCommand _ _ _)) hs (State.goodCommand_room hroom _ _ _)

end

/-- Settles O7: no row queues a fifth frame, and the end of each step takes and starts what can be taken and started. -/
theorem lineLawKept : Obligations.LineLawKept := by
  intro s t hs hstep
  unfold Machine.step at hstep
  split at hstep
  · rename_i c rest _
    obtain ⟨u, hu, hsound⟩ := exec_lineSound (s := s.setPending rest) hs c
    rw [hu] at hstep
    cases hstep
    exact hsound
  · cases hstep
    exact State.tick_lineSound hs

end Sys2Proof.Machine
end

section
/-! The Line Port's commands (R171 to R175, R177 to R180) and the reset line (R182): a command row at a free and at a busy
decoder, what the part holds after an answer, the commands that only read, and the rows under an asserted reset line. -/

namespace Sys2Proof.Machine

/-! ### A free decoder (R172 to R174) -/

/-- Settles O15: the row is the arrival of its frame, which a free decoder hands to the command's block at once. -/
theorem commandTakenAtOnce : Obligations.CommandTakenAtOnce := fun _ _ _ _ hs hlen => exec_taken hs hlen

/-- A good frame at a free decoder is decoded at once, whatever its code and its length (R172). -/
theorem commandFrame_decoded {s : State} (hs : s.Listening) {code tag : Byte} {p : List Byte} {a : Answer}
    (ha : s.answerFrame { code := code, tag := tag, payload := p, arrival := s.lt.time } = a) :
    commandFrame code tag p s = .next (a.sent code tag p s.lt.time) := by
  obtain ⟨hreset, hslot, hqueue⟩ := hs
  rw [commandFrame, event, hreset, if_neg Bool.false_ne_true, s.goodCommand_settle hslot hqueue, ha]

/-- The first check of the decoder (R173 step 1). -/
theorem State.answerFrame_unknown (s : State) {f : CmdFrame} (h : commandOfCode f.code = none) :
    s.answerFrame f = ⟨s, .unknownCommand, 0, .summaryOnly⟩ := by
  simp only [State.answerFrame, h, State.refuse]

/-- The second check of the decoder (R173 step 2). -/
theorem State.answerFrame_mismatch (s : State) {f : CmdFrame} {c : Command} (hcode : f.code = c.code)
    (hlen : lengthOk c f.payload = false) : s.answerFrame f = ⟨s, .lengthMismatch, 0, .summaryOnly⟩ := by
  simp only [State.answerFrame, hcode, commandOfCode_code, hlen, Bool.false_eq_true, if_false, State.refuse]

/-- Settles O16: each check of the decoder refuses before a block is reached. -/
theorem refusedBeforeAnyBlock : Obligations.RefusedBeforeAnyBlock := by
  intro tag p s hs
  refine ⟨fun code hcode => ?_, fun c hlen => ?_⟩
  · exact commandFrame_decoded hs (s.answerFrame_unknown hcode)
  · rw [exec_commandRow]
    exact commandFrame_decoded hs (s.answerFrame_mismatch rfl hlen)

/-! ### A busy decoder (R171, R172) -/

/-- While a reply waits behind a frame being sent, the Line Port takes and starts nothing. -/
theorem State.settle_waiting {s : State} (hslot : s.lp.slot.isSome = true) (htx : s.lp.tx.isSome = true) :
    s.settle = s := by
  obtain ⟨r, hr⟩ := Option.isSome_iff_exists.1 hslot
  obtain ⟨f, hf⟩ := Option.isSome_iff_exists.1 htx
  rw [s.settle_eq_transmit (by simp [hr]) (by simp [hf]), s.transmit_busy f hf]

/-- Settles O17: by the room in the command queue; nothing is taken at the end of the step. -/
theorem frameWaitsOrOverflows : Obligations.FrameWaitsOrOverflows := by
  intro c tag p s hreset hslot htx
  have harrival {u : State} (hu : s.goodCommand c.code tag p = u) (hlp : u.lp.slot = s.lp.slot ∧ u.lp.tx = s.lp.tx) :
      exec (commandRow c tag p) s = .next u := by
    obtain ⟨huslot, hutx⟩ := hlp
    rw [exec_commandRow, commandFrame, event, hreset, if_neg Bool.false_ne_true, hu,
      State.settle_waiting (huslot ▸ hslot) (hutx ▸ htx)]
  exact ⟨fun hroom => harrival (if_pos hroom) ⟨rfl, rfl⟩,
    fun hfull => harrival (if_neg (Nat.not_lt.2 hfull)) ⟨rfl, rfl⟩⟩

/-! ### The reply (R175, R177, R180) -/

theorem ResultCode.isAnswer_iff (c : ResultCode) : c.isAnswer = true ↔ c = .ok ∨ c = .accepted ∨ c = .noEffect := by
  cases c <;> decide

/-- The state with the reply in its slot. -/
theorem Answer.reply_eq (a : Answer) (f : CmdFrame) : a.reply f = a.st.setLp { a.st.lp with
    error := if a.code = .ok ∨ a.code = .accepted ∨ a.code = .noEffect then a.st.lp.error
      else some { code := f.code, tag := f.tag, result := a.code, detail := a.detail }
    slot := some { code := f.code, tag := f.tag, summary := a.st.summary a.code, items := a.items } } := by
  simp only [Answer.reply, ResultCode.isAnswer_iff]

/-- The status summary, its ALERT item as a test of the flags (R175). -/
theorem State.summary_eq (s : State) (code : ResultCode) : s.summary code = {
    engine := s.cc.engine, active := s.cc.active, press := s.pk.state, heads := perHead fun h => (s.head h).status
    reports := s.rq.reports.length, alert := decide (s.au.flags ≠ 0), marks := s.pk.queue.length, result := code } := by
  have halert : (s.au.flags != 0) = decide (s.au.flags ≠ 0) := by
    rw [Bool.eq_iff_iff, bne_iff_ne, decide_eq_true_iff]
  rw [State.summary, halert]

/-- Settles O18: the reply formed in its slot, then the transmitter's choice. -/
theorem replyFormed : Obligations.ReplyFormed := by
  intro a code tag p arrival summary r e
  let f : CmdFrame := { code := code, tag := tag, payload := p, arrival := arrival }
  let u := a.st.setLp { a.st.lp with error := e, slot := some r }
  have hformed : a.reply f = u := by rw [a.reply_eq, State.summary_eq]
  have hsent : a.sent code tag p arrival = u.transmit := congrArg State.transmit hformed
  refine ⟨fun htx => hsent.trans (State.transmit_reply (s := u) htx rfl), fun htx => ?_⟩
  obtain ⟨g, hg⟩ := Option.isSome_iff_exists.1 htx
  exact hsent.trans (u.transmit_busy g hg)

/-! ### The commands that read the part (R177 to R179) -/

/-- The identity record (R178). -/
theorem identityBytes : Items.bytes .identity = [83, 20, 24, 0, 1, 8, 32, 64, 32, 4, 4, 16, 0, 4, 6, 4] := by decide

/-- Settles O59: each of the three answers from the state as it stands. -/
theorem partRead : Obligations.PartRead := by
  intro tag s hs
  refine ⟨⟨exec_taken (c := .identify) hs rfl, identityBytes⟩, exec_taken (c := .sense) hs rfl, s.statusItems,
    exec_taken (c := .getStatus) hs rfl, ?_⟩
  obtain ⟨-, -, hqueue⟩ := hs
  have hheads : s.statusItems.heads = Rule.headItems s := s.headItems_eq
  have hbins : s.statusItems.openBins = s.pt.held := by
    change (s.pt.piece.map Piece.binCount).getD 0 = s.pt.held
    unfold PieceTracker.held
    cases s.pt.piece <;> rfl
  have hwaiting : s.statusItems.commandQueue = 0 := congrArg List.length hqueue
  rw [hheads, hbins, hwaiting]
  simp only [State.statusItems, LengthTracker.live, and_self]

/-! ### The reset line (R182) -/

/-- Every row but the reset line's own is an event, which an asserted reset line keeps from the part. -/
theorem exec_is_event (i : Instr) (h : ∀ n, i ≠ .hardReset n) (hrelease : i ≠ .hardResetRelease) :
    ∃ f, exec i = event f := by
  cases i
  case hardReset n => exact absurd rfl (h n)
  case hardResetRelease => exact absurd rfl hrelease
  all_goals exact ⟨_, rfl⟩

/-- Settles O5: every other row is an event. -/
theorem noEventUnderReset : Obligations.NoEventUnderReset := by
  intro i s hreset h hrelease
  obtain ⟨f, hf⟩ := exec_is_event i h hrelease
  rw [hf, event, if_pos hreset]

/-- Settles O6: by the time that the line is held low. -/
theorem hardResetAndRelease : Obligations.HardResetAndRelease := fun _ _ =>
  ⟨fun hlow => congrArg Host.Outcome.next (if_neg (Nat.not_lt.2 hlow)),
    fun hshort => congrArg Host.Outcome.next (if_pos hshort), rfl⟩

end Sys2Proof.Machine
end

section
/-! The line receiver (R169, R170, R185, R187): the checks of a line frame in their order, the frame that is its command,
and the faults of frames, of symbols and of the lock. -/

namespace Sys2Proof.Machine

/-! ### The bytes of a line frame (R170, R183, R185) -/

/-- The header of a line frame (R185). -/
def lineHeader (kind tag code : Byte) (n : Nat) : List Byte := [kind, tag, code] ++ leBytes 2 n

theorem lineHeader_length (kind tag code : Byte) (n : Nat) : (lineHeader kind tag code n).length = 5 := rfl

/-- The checks of a frame with a whole header, in the terms of its fields. -/
theorem checkLineFrame_fields (kind tag code : Byte) {n : Nat} (hn : n < 65536) (rest : List Byte) :
    let bs := lineHeader kind tag code n ++ rest
    checkLineFrame bs =
      if kind ≠ 1 then .error .kind
      else if 1024 < n then .error .size
      else if ¬ n + 4 ≤ rest.length then .error .length
      else if ¬ crcMatches bs (5 + n) = true then .error .crc
      else .ok (code, tag, rest.take n) := by
  intro bs
  have hlen : bs.length = 5 + rest.length := List.length_append
  have hkind : natAt bs 0 1 ≠ 1 ↔ kind ≠ 1 := by
    rw [natAt_one]
    exact not_congr (BitVec.toNat_eq (y := 1#8)).symm
  have hcount : natAt bs 3 2 = n := leNat_leBytes2 hn
  have hpayload : bs.drop 5 = rest := rfl
  have hend : bs.length < 9 + n ↔ ¬ n + 4 ≤ rest.length := by omega
  have hany : ¬ bs.length < 1 := by omega
  have hwhole : ¬ bs.length < 5 := by omega
  unfold checkLineFrame
  rw [hcount, hpayload]
  simp only [if_neg hany, if_neg hwhole, hkind, hend, Bool.not_eq_true', ← Bool.not_eq_true]
  rfl

/-- Settles O22: the checks' branches. -/
theorem lineCheckOrder : Obligations.LineCheckOrder := by
  intro kind tag code n rest hn bs
  have hcheck := checkLineFrame_fields kind tag code hn rest
  refine ⟨fun h1 => hcheck.trans (if_pos h1), fun h1 h2 => ?_, fun h1 h2 h3 => ?_, fun h1 h2 h3 h4 => ?_,
    fun h1 h2 h3 h4 => ?_⟩
  all_goals refine hcheck.trans ((if_neg (not_not.2 h1)).trans ?_)
  · exact if_pos h2
  all_goals refine (if_neg (Nat.not_lt.2 h2)).trans ?_
  · exact if_pos (Nat.not_le.2 h3)
  all_goals refine (if_neg (not_not.2 h3)).trans ?_
  · exact if_pos (Bool.eq_false_iff.1 h4)
  · exact if_neg (not_not.2 h4)

/-- A frame laid out with its CRC passes every check, and its payload reads back (R183, R185). -/
theorem checkLineFrame_withCrc (tag code : Byte) {p : List Byte} (hp : p.length ≤ 1024) :
    checkLineFrame (withCrc (lineHeader 1 tag code p.length ++ p)) = .ok (code, tag, p) := by
  let covered := lineHeader 1 tag code p.length ++ p
  have hframe : withCrc covered = lineHeader 1 tag code p.length ++ (p ++ crcBytes covered) := List.append_assoc ..
  have hcovered : covered.length = 5 + p.length := List.length_append
  have hcrc := crcMatches_withCrc covered
  have hlen : p.length + 4 ≤ (p ++ crcBytes covered).length := by simp [crcBytes]
  rw [hcovered, hframe] at hcrc
  rw [hframe]
  rw [checkLineFrame_fields _ _ _ (by omega), if_neg (not_not.2 rfl), if_neg (Nat.not_lt.2 hp), if_neg (not_not.2 hlen),
    if_neg (not_not.2 hcrc), List.take_left]

/-! ### What a run of symbols brings about (R169, R187) -/

/-- The state in which the line receiver's running disparity is another. -/
def State.heardTo (s : State) (rd : Disparity) : State := s.setLp { s.lp with rxRd := rd }

section
variable {s : State} (hlock : s.lp.lock = true)
include hlock

/-- A frame's symbols bring the frame's bytes to its checks. -/
theorem State.lineFrameEnds_framed {gap : List Symbol} (hgap : Rule.noStart gap) (bs : List Byte) :
    let run := Rule.framed s.lp.rxRd gap bs
    s.lineFrameEnds run = (s.heardTo (Rule.heard s.lp.rxRd run)).lineFrame bs :=
  s.lineHears_of_hear false true _ hlock (hear_framed _ _ gap bs hgap)

/-- Symbols between frames move the receiver's running disparity alone. -/
theorem State.lineHears_noStart {run : List Symbol} (hrun : Rule.noStart run) (ended : Bool) :
    s.lineHears false ended run = s.heardTo (Rule.heard s.lp.rxRd run) :=
  s.lineHears_of_hear false ended run hlock (hear_noStart _ _ run hrun ended)

/-- A symbol error in a frame makes the frame faulty. -/
theorem State.lineHears_error {inFrame ended : Bool} {run : List Symbol}
    (hhear : hear lineWhole s.lp.rxRd inFrame ended run = (Rule.heard s.lp.rxRd run, [.symbolError])) :
    s.lineHears inFrame ended run = (s.heardTo (Rule.heard s.lp.rxRd run)).lineFaulty .symbol :=
  s.lineHears_of_hear inFrame ended run hlock hhear

end

theorem State.lineFrame_faulty {s : State} {bs : List Byte} {f : LineFault} (hcheck : checkLineFrame bs = .error f) :
    s.lineFrame bs = s.lineFaulty f := by
  simp only [State.lineFrame, hcheck]

theorem State.lineFrame_good {s : State} {bs : List Byte} {code tag : Byte} {p : List Byte}
    (hcheck : checkLineFrame bs = .ok (code, tag, p)) : s.lineFrame bs = s.goodCommand code tag p := by
  simp only [State.lineFrame, hcheck]

/-! ### A good frame is its command (R170, R171) -/

/-- Settles O20: the frame passes its checks, and its command arrives at the disparity behind the frame. -/
theorem lineFrameIsItsCommand : Obligations.LineFrameIsItsCommand := by
  intro c tag p gap s hreset hlock hp hgap run u
  have hcheck := checkLineFrame_withCrc tag c.code hp
  have hrun : s.lineFrameEnds run = u.goodCommand c.code tag p :=
    (State.lineFrameEnds_framed hlock hgap _).trans (State.lineFrame_good hcheck)
  have hrow : exec (.lineFrameReceived run) s = exec (commandRow c tag p) u := by
    have hureset : u.inReset = false := hreset
    rw [exec_commandRow]
    change event (·.lineFrameEnds run) s = event (·.goodCommand c.code tag p) u
    rw [event, event, hreset, hureset, if_neg Bool.false_ne_true, if_neg Bool.false_ne_true, hrun]
  exact ⟨hrow, fun hs hlen => hrow.trans (exec_taken (s := u) hs hlen)⟩

/-! ### Faults (R169, R170) -/

/-- A row of the line link that leaves the decoder and the transmitter ends with the transmitter's choice. -/
theorem event_of_line {s u : State} {f : State → State} (hs : s.Drained) (h : f s = u) (hreset : u.inReset = s.inReset)
    (hslot : u.lp.slot = s.lp.slot) (hqueue : u.lp.queue = s.lp.queue) (htx : u.lp.tx = s.lp.tx) :
    event f s = .next u.transmit := by
  subst h
  obtain ⟨hline, hempty, hidle⟩ := hs
  refine event_of_drained hline ⟨hreset.trans hline, ?_, ?_⟩
  · rwa [hslot, hqueue]
  · rwa [htx, hslot]

section
variable {s u : State} (hs : s.Drained)
include hs

theorem exec_lineFrameReceived {run : List Symbol} (hu : s.lineFrameEnds run = u) (hreset : u.inReset = s.inReset)
    (hslot : u.lp.slot = s.lp.slot) (hqueue : u.lp.queue = s.lp.queue) (htx : u.lp.tx = s.lp.tx) :
    exec (.lineFrameReceived run) s = .next u.transmit :=
  event_of_line (f := (·.lineFrameEnds run)) hs hu hreset hslot hqueue htx

theorem exec_lineSymbolError {inFrame : Bool} {run : List Symbol} {sym : Symbol}
    (hu : s.lineHears inFrame false (run ++ [sym]) = u) (hreset : u.inReset = s.inReset)
    (hslot : u.lp.slot = s.lp.slot) (hqueue : u.lp.queue = s.lp.queue) (htx : u.lp.tx = s.lp.tx) :
    exec (.lineSymbolError inFrame run sym) s = .next u.transmit :=
  event_of_line (f := (·.lineSymbolError inFrame run sym)) hs hu hreset hslot hqueue htx

theorem exec_lineLockLoss {inFrame : Bool} (hu : s.lineLockLoss inFrame = u) (hreset : u.inReset = s.inReset)
    (hslot : u.lp.slot = s.lp.slot) (hqueue : u.lp.queue = s.lp.queue) (htx : u.lp.tx = s.lp.tx) :
    exec (.lineLockLoss inFrame) s = .next u.transmit :=
  event_of_line (f := (·.lineLockLoss inFrame)) hs hu hreset hslot hqueue htx

end

/-- A loss of lock between frames leaves the receiver without lock, whether or not it held it (R169). -/
theorem State.lineLockLoss_between (s : State) : s.lineLockLoss false = s.setLp { s.lp with lock := false } := by
  unfold State.lineLockLoss
  split
  · rfl
  · rename_i hlock
    rw [← Bool.eq_false_iff.2 hlock]
    rfl

/-- Settles O21: the runs as the receiver hears them, and its lock. -/
theorem faultyLineFrame : Obligations.FaultyLineFrame := by
  intro s hs rd u faulty unended
  refine ⟨fun gap bs f hlock hgap hcheck => ?_, fun gap bs bad rest run sym hlock hgap hrest hbs hbad hrun => ?_,
    fun bs bad rest run sym hlock hrest hbs hbad hrun => ?_, fun run sym hlock hrun => ⟨?_, ?_⟩,
    fun hlock => ⟨fun run => ?_, ?_, fun inFrame run sym => ?_⟩, fun hlock => ?_, ?_, ?_⟩
  · have hframe := (State.lineFrameEnds_framed hlock hgap bs).trans (State.lineFrame_faulty hcheck)
    exact exec_lineFrameReceived hs hframe rfl rfl rfl rfl
  · have hhear (ended : Bool) := hear_framed_error lineWhole rd gap rest bs bad hgap hrest (lineWhole_false bs hbs)
      ended hbad
    rw [← hrun] at hhear
    exact ⟨exec_lineFrameReceived hs (State.lineHears_error hlock (hhear true)) rfl rfl rfl rfl,
      exec_lineSymbolError hs (State.lineHears_error hlock (hhear false)) rfl rfl rfl rfl⟩
  · have hhear := hear_started_error lineWhole rd rest bs bad hrest (lineWhole_false bs hbs) false hbad
    rw [← hrun] at hhear
    exact exec_lineSymbolError hs (State.lineHears_error hlock hhear) rfl rfl rfl rfl
  · have hbetween : Rule.noStart run := fun x hx => hrun x (List.mem_append_left _ hx)
    exact exec_lineFrameReceived hs (State.lineHears_noStart hlock hbetween true) rfl rfl rfl rfl
  · exact exec_lineSymbolError hs (State.lineHears_noStart hlock hrun false) rfl rfl rfl rfl
  · exact exec_lineFrameReceived hs (s.lineHears_unlocked false true run hlock) rfl rfl rfl rfl
  · exact exec_lineLockLoss hs (if_neg (Bool.eq_false_iff.1 hlock)) rfl rfl rfl rfl
  · exact exec_lineSymbolError hs (s.lineHears_unlocked inFrame false _ hlock) rfl rfl rfl rfl
  · exact exec_lineLockLoss hs (if_pos hlock) rfl rfl rfl rfl
  · exact exec_lineLockLoss hs s.lineLockLoss_between rfl rfl rfl rfl
  · exact event_of_line (f := State.lineLockGain) hs rfl rfl rfl rfl rfl

end Sys2Proof.Machine
end

section
/-! A step on a queue that holds a row (log 31, log 34). On an empty queue the step is `step_idle`'s. -/

namespace Sys2Proof.Machine

/-- Settles O1: the front of the queue selects the branch of the step that runs a row. -/
theorem stepTakesTheFrontCommand : Obligations.StepTakesTheFrontCommand := by
  intro s c rest hpending
  unfold step
  rw [hpending]

end Sys2Proof.Machine
end
